-- ==== Sys2Proof/Word.lean ====
section
/-! DEFINITION. The data word of S2LP-PKT: every register, address, strobe code and FIFO entry is 8 bits wide
(00_scope.md R8). -/

namespace Sys2Proof

/-- A register value, a register address, a strobe code or a FIFO entry (00_scope.md R8). -/
abbrev Byte := BitVec 8

/-- The bytes of one transaction, one frame or one FIFO, in order. -/
abbrev Bytes := List Byte

end Sys2Proof
end

