-- ==== Sys2Proof/Config.lean ====
section
/-! DEFINITION. The implementation parameters of 00_scope.md R7, and the free bytes of `Draw(0..255)`.
A machine's parameters are one value of `Config`; `State` carries it unchanged, so a statement about every state
is a statement about every choice of the parameters (notes/assumptions/6.md). -/

namespace Sys2Proof

/-- `CRC_INIT`: the initial value of the CRC register for each CRC width (00_scope.md R7). -/
structure CrcInit where
  w8 : BitVec 8
  w16 : BitVec 16
  w24 : BitVec 24
  w32 : BitVec 32
  deriving DecidableEq, Repr

/-- `STROBE_CODE`: the map from a strobe to its 8-bit code (00_scope.md R7, 93_implementation_defined.md U26). -/
structure StrobeCode where
  tx : Byte
  rx : Byte
  ready : Byte
  standby : Byte
  sleep : Byte
  sabort : Byte
  sres : Byte
  flushrx : Byte
  flushtx : Byte
  pwrup : Byte
  deriving DecidableEq, Repr

/-- The default of `STROBE_CODE`: the table of 30_encoding.md R112. -/
def StrobeCode.default : StrobeCode where
  tx := 0x60#8
  rx := 0x61#8
  ready := 0x62#8
  standby := 0x63#8
  sleep := 0x64#8
  sabort := 0x67#8
  sres := 0x70#8
  flushrx := 0x71#8
  flushtx := 0x72#8
  pwrup := 0x7E#8

/-- The ten codes that are not reserved (30_encoding.md R113). -/
def StrobeCode.codes (m : StrobeCode) : List Byte :=
  [m.tx, m.rx, m.ready, m.standby, m.sleep, m.sabort, m.sres, m.flushrx, m.flushtx, m.pwrup]

/-- No code stands for two strobes: "Each strobe opcode is a separate operation" (00_scope.md R3; notes/assumptions/7.md). -/
def StrobeCode.distinct (m : StrobeCode) : Bool :=
  decide m.codes.Nodup

/-- The parameters of 00_scope.md R7. `T_TICK` enters no rule (notes/assumptions/15.md). -/
structure Config where
  /-- `FIFO_CAP`: capacity in bytes of each FIFO, 64 or 128. -/
  fifoCap : Nat
  /-- `NUM_GPIO`: number of interrupt-capable pins, 1 to 8. -/
  numGpio : Nat
  /-- `MAX_BURST`, OPEN: the largest number of data bytes in one transaction; `none` is no limit. -/
  maxBurst : Option Nat
  /-- `CRC_INIT`. -/
  crcInit : CrcInit
  /-- `STROBE_CODE`. -/
  strobeCode : StrobeCode
  deriving DecidableEq, Repr

/-- The values 00_scope.md R7 admits. -/
def Config.legal (c : Config) : Bool :=
  (c.fifoCap == 64 || c.fifoCap == 128) && decide (1 ≤ c.numGpio) && decide (c.numGpio ≤ 8) &&
    (match c.maxBurst with
     | none => true
     | some n => decide (1 ≤ n)) &&
    c.strobeCode.distinct

/-- The defaults of 00_scope.md R7: 128 bytes, 4 pins, all-ones CRC registers, the strobe codes of 30_encoding.md R112.
`MAX_BURST` has no default there: "the block imposes no limit of its own" (DESIGN CHOICE, unsafe, notes/assumptions/6.md). -/
def Config.default : Config where
  fifoCap := 128
  numGpio := 4
  maxBurst := none
  crcInit := { w8 := 0xFF#8, w16 := 0xFFFF#16, w24 := 0xFFFFFF#24, w32 := 0xFFFFFFFF#32 }
  strobeCode := StrobeCode.default

/-- `Draw(0..255)` of 00_scope.md R10: the n-th byte the chip returns under no law (93_implementation_defined.md U4, U8,
U14, U15). It has no body: nothing can be proved of its values (notes/assumptions/4.md). -/
opaque Config.freeByte : Nat → Byte

end Sys2Proof
end

