-- ==== Sys2Proof/Syntax.lean ====
section
/-! DEFINITION. The instructions of S2LP-PKT: the host's bus transactions, one constructor per row of
spec/opcode_table.json. A transaction keeps every byte the host sent, also those the chip ignores, so that no bit of an
encoding is lost (30_encoding.md R100 to R106). -/

namespace Sys2Proof

/-- A status poll is a write or a read with no data byte (40_bus_transactions.md R148). -/
inductive PollForm where
  | write
  | read
  deriving DecidableEq, Repr

/-- One host transaction. `addr` is the register address; `data` the written bytes; `dummies` the bytes a read sends to
clock its data out; `tail` the bytes after a strobe code or a reserved header, which the chip ignores. -/
inductive Instr where
  /-- POLL, 40_bus_transactions.md R148: `Write(a, [])` or `Read(a, 0)`. -/
  | poll (form : PollForm) (addr : Byte)
  /-- FIFO_WRITE, 40_bus_transactions.md R145: `Write(0xFF, d)`, at least one byte. -/
  | fifoWrite (data : Bytes)
  /-- WRITE, 40_bus_transactions.md R144: one data byte. -/
  | write (addr : Byte) (datum : Byte)
  /-- BURST_WRITE, 40_bus_transactions.md R144: two or more data bytes. -/
  | burstWrite (addr : Byte) (data : Bytes)
  /-- FIFO_READ, 40_bus_transactions.md R147: `Read(0xFF, n)`, at least one byte. -/
  | fifoRead (dummies : Bytes)
  /-- READ, 40_bus_transactions.md R146: one data byte. -/
  | read (addr : Byte) (dummy : Byte)
  /-- BURST_READ, 40_bus_transactions.md R146: two or more data bytes. -/
  | burstRead (addr : Byte) (dummies : Bytes)
  /-- PWRUP, 41_state_machine.md R170. -/
  | pwrup (tail : Bytes)
  /-- SRES, 41_state_machine.md R172. -/
  | sres (tail : Bytes)
  /-- READY, 41_state_machine.md R173. -/
  | ready (tail : Bytes)
  /-- STANDBY, 41_state_machine.md R174. -/
  | standby (tail : Bytes)
  /-- SLEEP, 41_state_machine.md R175. -/
  | sleep (tail : Bytes)
  /-- RX, 41_state_machine.md R180. -/
  | rx (tail : Bytes)
  /-- TX, 41_state_machine.md R181. -/
  | tx (tail : Bytes)
  /-- SABORT, 41_state_machine.md R176. -/
  | sabort (tail : Bytes)
  /-- FLUSHTX, 41_state_machine.md R177. -/
  | flushtx (tail : Bytes)
  /-- FLUSHRX, 41_state_machine.md R178. -/
  | flushrx (tail : Bytes)
  /-- RESERVED_STROBE, 41_state_machine.md R179: a code that the map of 30_encoding.md R112 does not list. -/
  | reservedStrobe (code : Byte) (tail : Bytes)
  /-- RESERVED_HEADER, 40_bus_transactions.md R150: a header that is not 0x00, 0x01 or 0x80. -/
  | reservedHeader (header : Byte) (second : Byte) (tail : Bytes)
  deriving DecidableEq, Repr

end Sys2Proof
end

