-- ==== Sys2Proof/WellFormed.lean ====
section
/-! DEFINITION. Which terms of `Instr` are encodings of transactions: the operand conditions of
spec/opcode_table.json and 30_encoding.md R102, R112, R113. -/

namespace Sys2Proof

/-- A code of the map in force is no reserved code (30_encoding.md R112, R113). -/
def definedStrobeCode (m : StrobeCode) (c : Byte) : Bool :=
  m.codes.contains c

/-- The three headers of 30_encoding.md R102. -/
def definedHeader (h : Byte) : Bool :=
  h == 0x00#8 || h == 0x01#8 || h == 0x80#8

/-- The FIFO port 0xFF is not a register address; a burst has two or more data bytes; a reserved code or header is not a
defined one. A burst that runs past 0xFE is well formed: the machine faults on it (20_memory.md R79). -/
def Instr.wellFormed (m : StrobeCode) : Instr → Bool
  | .poll _ _ => true
  | .fifoWrite data => decide (1 ≤ data.length)
  | .write addr _ => addr != 0xFF#8
  | .burstWrite addr data => addr != 0xFF#8 && decide (2 ≤ data.length)
  | .fifoRead dummies => decide (1 ≤ dummies.length)
  | .read addr _ => addr != 0xFF#8
  | .burstRead addr dummies => addr != 0xFF#8 && decide (2 ≤ dummies.length)
  | .pwrup _ => true
  | .sres _ => true
  | .ready _ => true
  | .standby _ => true
  | .sleep _ => true
  | .rx _ => true
  | .tx _ => true
  | .sabort _ => true
  | .flushtx _ => true
  | .flushrx _ => true
  | .reservedStrobe code _ => !definedStrobeCode m code
  | .reservedHeader header _ _ => !definedHeader header

end Sys2Proof
end

