-- ==== Sys2Proof/Decode.lean ====
section
/-! DEFINITION. From the bytes of one transaction to an instruction and back (30_encoding.md sections 1 and 3,
spec/opcode_table.json). A transaction's length is set by the bus framing (R107), so the decoder takes the whole byte
string. Every string of two or more bytes is a transaction (R102, R103). -/

namespace Sys2Proof

/-- Why a byte string is no instruction. -/
inductive DecodeError where
  /-- Fewer than two bytes: "not a transaction: the block ignores it" (30_encoding.md R103). -/
  | tooShort
  deriving DecidableEq, Repr

/-- Header 0x00 (30_encoding.md R104): POLL by n = 0, then the FIFO port, then WRITE and BURST_WRITE by n. -/
def decodeWrite (a : Byte) (d : Bytes) : Instr :=
  match d with
  | [] => .poll .write a
  | [b] => if a = 0xFF#8 then .fifoWrite [b] else .write a b
  | b :: c :: r => if a = 0xFF#8 then .fifoWrite (b :: c :: r) else .burstWrite a (b :: c :: r)

/-- Header 0x01 (30_encoding.md R105): POLL by n = 0, then the FIFO port, then READ and BURST_READ by n. -/
def decodeRead (a : Byte) (d : Bytes) : Instr :=
  match d with
  | [] => .poll .read a
  | [b] => if a = 0xFF#8 then .fifoRead [b] else .read a b
  | b :: c :: r => if a = 0xFF#8 then .fifoRead (b :: c :: r) else .burstRead a (b :: c :: r)

/-- Header 0x80 (30_encoding.md R106, R112, R113) under the code map `m`. -/
def decodeStrobe (m : StrobeCode) (c : Byte) (tail : Bytes) : Instr :=
  if c = m.tx then .tx tail
  else if c = m.rx then .rx tail
  else if c = m.ready then .ready tail
  else if c = m.standby then .standby tail
  else if c = m.sleep then .sleep tail
  else if c = m.sabort then .sabort tail
  else if c = m.sres then .sres tail
  else if c = m.flushrx then .flushrx tail
  else if c = m.flushtx then .flushtx tail
  else if c = m.pwrup then .pwrup tail
  else .reservedStrobe c tail

/-- The transaction with header `h`, second byte `a` and further bytes `d` (30_encoding.md R102). -/
def decodeRecord (m : StrobeCode) (h a : Byte) (d : Bytes) : Instr :=
  match h.toNat with
  | 0x00 => decodeWrite a d
  | 0x01 => decodeRead a d
  | 0x80 => decodeStrobe m a d
  | _ => .reservedHeader h a d

/-- Total on any byte string, under the code map `m` of the chip. -/
def decode (m : StrobeCode) : Bytes → Except DecodeError Instr
  | [] => .error .tooShort
  | [_] => .error .tooShort
  | h :: a :: d => .ok (decodeRecord m h a d)

/-- A strobe's transaction: its code, then ignored bytes `tail` (30_encoding.md R106). -/
def encodeStrobe (code : Byte) (tail : Bytes) : Bytes :=
  0x80#8 :: code :: tail

/-- The bytes the host sends for an instruction (30_encoding.md R104 to R106, R112), under the code map `m` of the chip. -/
def encode (m : StrobeCode) : Instr → Bytes
  | .poll .write addr => [0x00#8, addr]
  | .poll .read addr => [0x01#8, addr]
  | .fifoWrite data => 0x00#8 :: 0xFF#8 :: data
  | .write addr datum => [0x00#8, addr, datum]
  | .burstWrite addr data => 0x00#8 :: addr :: data
  | .fifoRead dummies => 0x01#8 :: 0xFF#8 :: dummies
  | .read addr dummy => [0x01#8, addr, dummy]
  | .burstRead addr dummies => 0x01#8 :: addr :: dummies
  | .pwrup tail => encodeStrobe m.pwrup tail
  | .sres tail => encodeStrobe m.sres tail
  | .ready tail => encodeStrobe m.ready tail
  | .standby tail => encodeStrobe m.standby tail
  | .sleep tail => encodeStrobe m.sleep tail
  | .rx tail => encodeStrobe m.rx tail
  | .tx tail => encodeStrobe m.tx tail
  | .sabort tail => encodeStrobe m.sabort tail
  | .flushtx tail => encodeStrobe m.flushtx tail
  | .flushrx tail => encodeStrobe m.flushrx tail
  | .reservedStrobe code tail => encodeStrobe code tail
  | .reservedHeader header second tail => header :: second :: tail

/-- The data bytes of a table word: byte i is bits 16 + 8 i to 23 + 8 i (notes/assumptions/10.md). -/
def tableDataBytes (w : Nat) : Nat → Bytes
  | 0 => []
  | n + 1 => BitVec.ofNat 8 w :: tableDataBytes (w / 256) n

/-- The byte string of an instruction whose bits the opcode table numbers as `w`: the header word is bits 15 to 0, the header
byte in its upper half ("Bits 15:8 of match/mask are the header byte, bits 7:0 the address or strobe code"), then the data
bytes that `nbits` covers. Where the table gives a row no data bits but the row has one or more data bytes, one zero byte is
sent: so for header 0x01 (READ, FIFO_READ) and for the FIFO port (notes/assumptions/10.md). -/
def tableBytes (nbits w : Nat) : Bytes :=
  let h : Byte := BitVec.ofNat 8 (w / 256)
  let a : Byte := BitVec.ofNat 8 w
  let d := tableDataBytes (w / 65536) (nbits / 8 - 2)
  if d.isEmpty && (h == 0x01#8 || (h == 0x00#8 && a == 0xFF#8)) then [h, a, 0x00#8] else h :: a :: d

/-- The instruction the decoder reads from a table word under the codes of 30_encoding.md R112, which the table's rows have;
`none` where it refuses. -/
def decodeTableWord (nbits w : Nat) : Option Instr :=
  match decode StrobeCode.default (tableBytes nbits w) with
  | .ok i => some i
  | .error _ => none

end Sys2Proof
end

