-- ==== Sys2Proof/Machine/State.lean ====
section
/-! DEFINITION. The state of S2LP-PKT (10_state.md), as plain data, and the machine at power-on
(70_reset_and_hazards.md R390). Fields in one group belong to one rule; the model's own fields stand last. -/

namespace Sys2Proof.Machine

open Sys2Proof

/-- `RADIO_STATE` (10_state.md R22). -/
inductive RadioState where
  | shutdown
  | standby
  | sleep
  | ready
  | locking
  | rx
  | tx
  deriving DecidableEq, Repr

/-- `PENDING` (10_state.md R23). -/
inductive Pending where
  | none
  | tx
  | rx
  deriving DecidableEq, Repr

/-- `CSMA_PHASE` (10_state.md R25). -/
inductive CsmaPhase where
  | sense
  | backoff
  deriving DecidableEq, Repr

/-- `RX_PHASE` (10_state.md R27). -/
inductive RxPhase where
  | hunt
  | len
  | addr
  | ctrl
  | payload
  | crc
  deriving DecidableEq, Repr

/-- The `info` of a HostFault (60_exceptions.md R356). -/
inductive HostFault where
  | fifoBounds
  | burstRange
  | burstLength
  deriving DecidableEq, Repr

/-- The registers of 10_state.md R30 that hold a value of their own. The two FIFO counts and `ERR_FLAGS` are views of other
state (R46, R52). `gpioCfg` is `GPIOn_CFG` for n = 0, 1, ... -/
structure Regs where
  pktCfg0 : Byte
  preambleLen : Byte
  syncLen : Byte
  sync3 : Byte
  sync2 : Byte
  sync1 : Byte
  sync0 : Byte
  pktLen1 : Byte
  pktLen0 : Byte
  txDestAddr : Byte
  txCtrl : Byte
  localAddr : Byte
  bcastAddr : Byte
  filterCfg : Byte
  csmaCfg : Byte
  csmaBe : Byte
  csmaMaxRetry : Byte
  rssiThresh : Byte
  boUnit1 : Byte
  boUnit0 : Byte
  senseWindow : Byte
  sleepCfg : Byte
  txFifoThr : Byte
  rxFifoThr : Byte
  gpioCfg : List Byte
  rssiLevel : Byte
  rxLen1 : Byte
  rxLen0 : Byte
  rxAddr : Byte
  rxCtrl : Byte
  rxResult : Byte
  csmaResult : Byte
  csmaAttempts : Byte
  eventFlags1 : Byte
  eventFlags0 : Byte
  deriving DecidableEq, Repr

/-- The reset column of 10_state.md R30 for a block with `numGpio` pins. -/
def Regs.reset (numGpio : Nat) : Regs where
  pktCfg0 := 0x13#8
  preambleLen := 0x04#8
  syncLen := 0x04#8
  sync3 := 0x88#8
  sync2 := 0x88#8
  sync1 := 0x88#8
  sync0 := 0x88#8
  pktLen1 := 0x00#8
  pktLen0 := 0x00#8
  txDestAddr := 0x00#8
  txCtrl := 0x00#8
  localAddr := 0x00#8
  bcastAddr := 0xFF#8
  filterCfg := 0x00#8
  csmaCfg := 0x00#8
  csmaBe := 0x50#8
  csmaMaxRetry := 0x04#8
  rssiThresh := 0x80#8
  boUnit1 := 0x00#8
  boUnit0 := 0x01#8
  senseWindow := 0x01#8
  sleepCfg := 0x00#8
  txFifoThr := 0x10#8
  rxFifoThr := 0x30#8
  gpioCfg := List.replicate numGpio 0x00#8
  rssiLevel := 0x00#8
  rxLen1 := 0x00#8
  rxLen0 := 0x00#8
  rxAddr := 0x00#8
  rxCtrl := 0x00#8
  rxResult := 0x00#8
  csmaResult := 0x00#8
  csmaAttempts := 0x00#8
  eventFlags1 := 0x00#8
  eventFlags0 := 0x00#8

/-- The sticky error flags `STATUS[15:11]` (10_state.md R29). -/
structure ErrFlags where
  cfgErr : Bool
  cmdErr : Bool
  lockErr : Bool
  rxOverrun : Bool
  txUnderflow : Bool
  deriving DecidableEq, Repr

/-- Every error flag 0 (70_reset_and_hazards.md R391). -/
def ErrFlags.clear : ErrFlags where
  cfgErr := false
  cmdErr := false
  lockErr := false
  rxOverrun := false
  txUnderflow := false

/-- The CSMA engine (10_state.md R25). -/
structure CsmaEngine where
  active : Bool
  phase : CsmaPhase
  samplesLeft : BitVec 8
  busySeen : Bool
  ticksLeft : Nat
  deriving DecidableEq, Repr

/-- The CSMA engine after `ResetAll` (70_reset_and_hazards.md R391). -/
def CsmaEngine.reset : CsmaEngine where
  active := false
  phase := .sense
  samplesLeft := 0
  busySeen := false
  ticksLeft := 0

/-- The TX serializer (10_state.md R26): `TX_POS` and `TX_CRC_ACC`. -/
structure TxEngine where
  pos : Nat
  crcAcc : BitVec 32
  deriving DecidableEq, Repr

/-- The TX serializer after `ResetAll` (70_reset_and_hazards.md R391). -/
def TxEngine.reset : TxEngine where
  pos := 0
  crcAcc := 0

/-- The RX deserializer (10_state.md R27). -/
structure RxEngine where
  phase : RxPhase
  lenGot : BitVec 2
  len : BitVec 16
  payloadLeft : BitVec 16
  crcGot : BitVec 3
  crcRecv : BitVec 32
  crcAcc : BitVec 32
  deriving DecidableEq, Repr

/-- The RX deserializer after `ResetAll` (70_reset_and_hazards.md R391). -/
def RxEngine.reset : RxEngine where
  phase := .hunt
  lenGot := 0
  len := 0
  payloadLeft := 0
  crcGot := 0
  crcRecv := 0
  crcAcc := 0

/-- One coming step of the machine (00_scope.md R11): a host transaction (the bytes the host sends), a TX serializer
emission, or an environment input. `csmaSample` carries the backoff draw k its step may take (43_csma_engine.md R293). -/
inductive Input where
  | transaction (bytes : Bytes)
  | txEmit
  | lockResult (ok : Bool)
  | rssiSample (v : Byte)
  | csmaSample (v : Byte) (k : Nat)
  | tick
  | syncDetected
  | rxByte (b : Byte)
  | carrierLost
  deriving DecidableEq, Repr

/-- The whole machine. -/
structure State where
  /-- The parameters of 00_scope.md R7; no step changes them. -/
  cfg : Config
  /-- `RADIO_STATE`, R22. -/
  radio : RadioState
  /-- `PENDING`, R23. -/
  pending : Pending
  /-- `POWERED`, R24. -/
  powered : Bool
  /-- The registers of R30. -/
  regs : Regs
  /-- `STATUS[15:11]`, R29. -/
  err : ErrFlags
  /-- The TX FIFO, head first, R28. -/
  txFifo : List Byte
  /-- The RX FIFO, head first, R28. -/
  rxFifo : List Byte
  /-- The CSMA engine, R25. -/
  csma : CsmaEngine
  /-- The TX serializer, R26. -/
  tx : TxEngine
  /-- The RX deserializer, R27. -/
  rx : RxEngine
  /-- `AIR_OUT`, R56, in emission order. -/
  airOut : List Byte
  /-- `PIN_TRACE`, R56, in order. -/
  pinTrace : List Nat
  /-- `FAULTS`, R56: the HostFault records with the index of their transaction. -/
  faults : List (HostFault × Nat)
  /-- The host's transaction index, R21. -/
  txnIndex : Nat
  /-- The model's own: the bytes returned by the last transaction (notes/assumptions/9.md). -/
  reply : List Byte
  /-- The model's own: how many bytes of `Draw(0..255)` have been taken (notes/assumptions/4.md). -/
  drawIndex : Nat
  /-- The model's own: the coming steps, first to last (notes/assumptions/2.md). -/
  input : List Input
  deriving DecidableEq, Repr

/-- Why a run stops. -/
inductive Fault where
  /-- Raised by every step of a run in which the host has broken a duty: "the run is faulted and no further step is defined"
  (60_exceptions.md R356). `info` and `index` are the first record of `FAULTS`. Safe: the model stops where a chip would
  go on in a way the spec does not give. -/
  | hostFaulted (info : HostFault) (index : Nat)
  deriving DecidableEq, Repr

/-- Why an instruction has no meaning. -/
inductive Refusal where
  /-- Raised by an arm of `exec` whose instruction has no meaning yet; no arm does. Safe: the model stops. -/
  | notModelled (mnemonic : String)
  deriving DecidableEq, Repr

/-- The machine at power-on (70_reset_and_hazards.md R390) with parameters `c`: SHUTDOWN, unpowered, output records empty,
transaction index 0. No register has a value there and none is read (10_state.md R24); the model holds the values of R391 in
them, which PWRUP writes again (DESIGN CHOICE, notes/assumptions/1.md). -/
def State.powerOn (c : Config) : State where
  cfg := c
  radio := .shutdown
  pending := .none
  powered := false
  regs := Regs.reset c.numGpio
  err := ErrFlags.clear
  txFifo := []
  rxFifo := []
  csma := CsmaEngine.reset
  tx := TxEngine.reset
  rx := RxEngine.reset
  airOut := []
  pinTrace := []
  faults := []
  txnIndex := 0
  reply := []
  drawIndex := 0
  input := []

/-- Power-on with the default parameters (70_reset_and_hazards.md R390, 00_scope.md R7). -/
def State.reset : State :=
  State.powerOn Config.default

end Sys2Proof.Machine
end

