-- ==== Sys2Proof/Machine/Operands.lean ====
section
/-! DEFINITION. What a register address names (10_state.md R30), the fields of the registers (10_state.md R31 to R55) and the
quantities derived from them (10_state.md R32). -/

namespace Sys2Proof.Machine

open Sys2Proof

/-- The mapped registers of 10_state.md R30, the FIFO port apart. -/
inductive Reg where
  | pktCfg0
  | preambleLen
  | syncLen
  | sync3
  | sync2
  | sync1
  | sync0
  | pktLen1
  | pktLen0
  | txDestAddr
  | txCtrl
  | localAddr
  | bcastAddr
  | filterCfg
  | csmaCfg
  | csmaBe
  | csmaMaxRetry
  | rssiThresh
  | boUnit1
  | boUnit0
  | senseWindow
  | sleepCfg
  | txFifoThr
  | rxFifoThr
  | gpioCfg (n : Nat)
  | txFifoCount
  | rxFifoCount
  | rssiLevel
  | rxLen1
  | rxLen0
  | rxAddr
  | rxCtrl
  | rxResult
  | csmaResult
  | csmaAttempts
  | eventFlags1
  | eventFlags0
  | errFlags
  deriving DecidableEq, Repr

/-- The access column of 10_state.md R30. -/
inductive Access where
  /-- Read and write. -/
  | rw
  /-- Read only; writes are ignored. -/
  | ro
  /-- Read only; a read clears the bits it returns. -/
  | rc
  deriving DecidableEq, Repr

/-- The FIFO port's address (20_memory.md R73). -/
def fifoPort : Byte := 0xFF#8

/-- The address column of 10_state.md R30; `none` is unmapped (20_memory.md R74). -/
def regAt (numGpio : Nat) (a : Byte) : Option Reg :=
  match a.toNat with
  | 0x00 => some .pktCfg0
  | 0x01 => some .preambleLen
  | 0x02 => some .syncLen
  | 0x03 => some .sync3
  | 0x04 => some .sync2
  | 0x05 => some .sync1
  | 0x06 => some .sync0
  | 0x07 => some .pktLen1
  | 0x08 => some .pktLen0
  | 0x09 => some .txDestAddr
  | 0x0A => some .txCtrl
  | 0x0B => some .localAddr
  | 0x0C => some .bcastAddr
  | 0x0D => some .filterCfg
  | 0x0E => some .csmaCfg
  | 0x0F => some .csmaBe
  | 0x10 => some .csmaMaxRetry
  | 0x11 => some .rssiThresh
  | 0x12 => some .boUnit1
  | 0x13 => some .boUnit0
  | 0x14 => some .senseWindow
  | 0x15 => some .sleepCfg
  | 0x16 => some .txFifoThr
  | 0x17 => some .rxFifoThr
  | 0x20 => some .txFifoCount
  | 0x21 => some .rxFifoCount
  | 0x22 => some .rssiLevel
  | 0x23 => some .rxLen1
  | 0x24 => some .rxLen0
  | 0x25 => some .rxAddr
  | 0x26 => some .rxCtrl
  | 0x27 => some .rxResult
  | 0x28 => some .csmaResult
  | 0x29 => some .csmaAttempts
  | 0x2A => some .eventFlags1
  | 0x2B => some .eventFlags0
  | 0x2C => some .errFlags
  | n => if 0x18 ≤ n ∧ n ≤ 0x1F ∧ n < 0x18 + numGpio then some (.gpioCfg (n - 0x18)) else none

/-- The access column of 10_state.md R30. -/
def regAccess : Reg → Access
  | .txFifoCount => .ro
  | .rxFifoCount => .ro
  | .rssiLevel => .ro
  | .rxLen1 => .ro
  | .rxLen0 => .ro
  | .rxAddr => .ro
  | .rxCtrl => .ro
  | .rxResult => .ro
  | .csmaResult => .ro
  | .csmaAttempts => .ro
  | .eventFlags1 => .rc
  | .eventFlags0 => .rc
  | .errFlags => .rc
  | _ => .rw

/-- The addresses that refuse writes while BUSY: 0x00 to 0x14 (10_state.md R33). -/
def lockedAddr (a : Byte) : Bool :=
  decide (a.toNat ≤ 0x14)

/-- `MASK(a)`: the writable bits (40_bus_transactions.md R142). -/
def regMask : Reg → Byte
  | .pktCfg0 => 0x3F#8
  | .syncLen => 0x07#8
  | .filterCfg => 0x03#8
  | .csmaCfg => 0x03#8
  | .sleepCfg => 0x01#8
  | .gpioCfg _ => 0xFB#8
  | _ => 0xFF#8

/-- `GPIOn_CFG.EN` (10_state.md R55). -/
def gpioEn (v : Byte) : Bool :=
  v.getLsbD 0

/-- `GPIOn_CFG.EDGE` (10_state.md R55). -/
def gpioEdge (v : Byte) : Bool :=
  v.getLsbD 1

/-- `GPIOn_CFG.SEL` (10_state.md R55). -/
def gpioSel (v : Byte) : Nat :=
  (v.extractLsb' 3 5).toNat

/-- `LEGAL(a, v2)`: the legality conditions of 40_bus_transactions.md R142, on the masked value. -/
def regLegal (fifoCap : Nat) (r : Reg) (v : Byte) : Bool :=
  match r with
  | .pktCfg0 => decide ((v.extractLsb' 0 3).toNat ≤ 5)
  | .preambleLen => decide (1 ≤ v.toNat)
  | .syncLen => decide (1 ≤ (v.extractLsb' 0 3).toNat) && decide ((v.extractLsb' 0 3).toNat ≤ 4)
  | .csmaBe => decide ((v.extractLsb' 0 4).toNat ≤ (v.extractLsb' 4 4).toNat)
  | .csmaMaxRetry => decide (1 ≤ v.toNat)
  | .senseWindow => decide (1 ≤ v.toNat)
  | .txFifoThr => decide (v.toNat + 1 ≤ fifoCap)
  | .rxFifoThr => decide (1 ≤ v.toNat) && decide (v.toNat ≤ fifoCap)
  | .gpioCfg _ => !gpioEn v || (decide (1 ≤ gpioSel v) && decide (gpioSel v ≤ 15))
  | _ => true

/-- `reg[a]` for a register that holds a value of its own (00_scope.md R10). -/
def regGet (g : Regs) : Reg → Byte
  | .pktCfg0 => g.pktCfg0
  | .preambleLen => g.preambleLen
  | .syncLen => g.syncLen
  | .sync3 => g.sync3
  | .sync2 => g.sync2
  | .sync1 => g.sync1
  | .sync0 => g.sync0
  | .pktLen1 => g.pktLen1
  | .pktLen0 => g.pktLen0
  | .txDestAddr => g.txDestAddr
  | .txCtrl => g.txCtrl
  | .localAddr => g.localAddr
  | .bcastAddr => g.bcastAddr
  | .filterCfg => g.filterCfg
  | .csmaCfg => g.csmaCfg
  | .csmaBe => g.csmaBe
  | .csmaMaxRetry => g.csmaMaxRetry
  | .rssiThresh => g.rssiThresh
  | .boUnit1 => g.boUnit1
  | .boUnit0 => g.boUnit0
  | .senseWindow => g.senseWindow
  | .sleepCfg => g.sleepCfg
  | .txFifoThr => g.txFifoThr
  | .rxFifoThr => g.rxFifoThr
  | .gpioCfg n => g.gpioCfg.getD n 0x00#8
  | .rssiLevel => g.rssiLevel
  | .rxLen1 => g.rxLen1
  | .rxLen0 => g.rxLen0
  | .rxAddr => g.rxAddr
  | .rxCtrl => g.rxCtrl
  | .rxResult => g.rxResult
  | .csmaResult => g.csmaResult
  | .csmaAttempts => g.csmaAttempts
  | .eventFlags1 => g.eventFlags1
  | .eventFlags0 => g.eventFlags0
  | .txFifoCount => 0x00#8
  | .rxFifoCount => 0x00#8
  | .errFlags => 0x00#8

/-- `reg[a] <- v` for an RW register; an RO or RC register is not written by the host (20_memory.md R74). -/
def regSet (g : Regs) (r : Reg) (v : Byte) : Regs :=
  match r with
  | .pktCfg0 => { g with pktCfg0 := v }
  | .preambleLen => { g with preambleLen := v }
  | .syncLen => { g with syncLen := v }
  | .sync3 => { g with sync3 := v }
  | .sync2 => { g with sync2 := v }
  | .sync1 => { g with sync1 := v }
  | .sync0 => { g with sync0 := v }
  | .pktLen1 => { g with pktLen1 := v }
  | .pktLen0 => { g with pktLen0 := v }
  | .txDestAddr => { g with txDestAddr := v }
  | .txCtrl => { g with txCtrl := v }
  | .localAddr => { g with localAddr := v }
  | .bcastAddr => { g with bcastAddr := v }
  | .filterCfg => { g with filterCfg := v }
  | .csmaCfg => { g with csmaCfg := v }
  | .csmaBe => { g with csmaBe := v }
  | .csmaMaxRetry => { g with csmaMaxRetry := v }
  | .rssiThresh => { g with rssiThresh := v }
  | .boUnit1 => { g with boUnit1 := v }
  | .boUnit0 => { g with boUnit0 := v }
  | .senseWindow => { g with senseWindow := v }
  | .sleepCfg => { g with sleepCfg := v }
  | .txFifoThr => { g with txFifoThr := v }
  | .rxFifoThr => { g with rxFifoThr := v }
  | .gpioCfg n => { g with gpioCfg := g.gpioCfg.set n v }
  | _ => g

/-- The CRC modes of 42_packet_engine.md R222. -/
inductive CrcMode where
  | none
  | crc8
  | crc16x8005
  | crc16x1021
  | crc24
  | crc32
  deriving DecidableEq, Repr

/-- `PKT_CFG0.CRC_MODE` (10_state.md R31). Codes 6 and 7 are never stored (R34); in a state that no run reaches they read as
"no CRC" (DESIGN CHOICE, notes/assumptions/11.md). -/
def crcModeOf (v : Byte) : CrcMode :=
  match (v.extractLsb' 0 3).toNat with
  | 1 => .crc8
  | 2 => .crc16x8005
  | 3 => .crc16x1021
  | 4 => .crc24
  | 5 => .crc32
  | _ => .none

/-- `W` of 42_packet_engine.md R222. -/
def crcWidth : CrcMode → Nat
  | .none => 0
  | .crc8 => 8
  | .crc16x8005 => 16
  | .crc16x1021 => 16
  | .crc24 => 24
  | .crc32 => 32

/-- `CRCB`, the number of CRC bytes (10_state.md R32). -/
def crcBytesCount : CrcMode → Nat
  | .none => 0
  | .crc8 => 1
  | .crc16x8005 => 2
  | .crc16x1021 => 2
  | .crc24 => 3
  | .crc32 => 4

/-- `POLY` of 42_packet_engine.md R222, without its `x^W` term. -/
def crcPoly : CrcMode → BitVec 32
  | .none => 0
  | .crc8 => 0x07
  | .crc16x8005 => 0x8005
  | .crc16x1021 => 0x1021
  | .crc24 => 0x864CBF
  | .crc32 => 0x04C11DB7

/-- `CRC_INIT(W)` (42_packet_engine.md R223), in the low `W` bits. -/
def crcInitOf (c : CrcInit) : CrcMode → BitVec 32
  | .none => 0
  | .crc8 => c.w8.zeroExtend 32
  | .crc16x8005 => c.w16.zeroExtend 32
  | .crc16x1021 => c.w16.zeroExtend 32
  | .crc24 => c.w24.zeroExtend 32
  | .crc32 => c.w32

/-- The configuration tuple of 42_packet_engine.md R220, with the parameter `CRC_INIT` it is read under. -/
structure FrameCfg where
  crcMode : CrcMode
  addrEn : Bool
  ctrlEn : Bool
  lenWide : Bool
  preambleLen : Nat
  syncLen : Nat
  sync : BitVec 32
  filtEn : Bool
  bcastEn : Bool
  localAddr : Byte
  bcastAddr : Byte
  crcInit : CrcInit
  deriving DecidableEq, Repr

/-- `cfg` read from the registers (42_packet_engine.md R220, 10_state.md R31, R35, R36, R39). -/
def frameCfg (c : Config) (g : Regs) : FrameCfg where
  crcMode := crcModeOf g.pktCfg0
  addrEn := g.pktCfg0.getLsbD 3
  ctrlEn := g.pktCfg0.getLsbD 4
  lenWide := g.pktCfg0.getLsbD 5
  preambleLen := g.preambleLen.toNat
  syncLen := (g.syncLen.extractLsb' 0 3).toNat
  sync := g.sync3 ++ g.sync2 ++ g.sync1 ++ g.sync0
  filtEn := g.filterCfg.getLsbD 0
  bcastEn := g.filterCfg.getLsbD 1
  localAddr := g.localAddr
  bcastAddr := g.bcastAddr
  crcInit := c.crcInit

/-- The frame configuration of the machine. -/
def frameCfgOf (s : State) : FrameCfg :=
  frameCfg s.cfg s.regs

/-- `OVH = ADDR_EN + CTRL_EN` (10_state.md R32). -/
def overhead (f : FrameCfg) : Nat :=
  f.addrEn.toNat + f.ctrlEn.toNat

/-- `LMAX`, the largest length field value (10_state.md R32). -/
def lenMax (f : FrameCfg) : Nat :=
  if f.lenWide then 65535 else 255

/-- `LW = LEN_WIDTH + 1`, bytes in the length field (42_packet_engine.md R220). -/
def lenBytesCount (f : FrameCfg) : Nat :=
  if f.lenWide then 2 else 1

/-- `CRCB` of the configuration (10_state.md R32). -/
def crcCount (f : FrameCfg) : Nat :=
  crcBytesCount f.crcMode

/-- A 16-bit register pair, the lower address holding the most significant byte (20_memory.md R71, R72). -/
def pair (hi lo : Byte) : BitVec 16 :=
  hi ++ lo

/-- `PKT_LEN` (10_state.md R37). -/
def pktLen (g : Regs) : Nat :=
  (pair g.pktLen1 g.pktLen0).toNat

/-- `BO_UNIT` (10_state.md R44). -/
def boUnit (g : Regs) : Nat :=
  (pair g.boUnit1 g.boUnit0).toNat

/-- `CSMA_CFG.CSMA_EN` (10_state.md R40). -/
def csmaEn (g : Regs) : Bool :=
  g.csmaCfg.getLsbD 0

/-- `CSMA_CFG.PERSIST` (10_state.md R40). -/
def csmaPersist (g : Regs) : Bool :=
  g.csmaCfg.getLsbD 1

/-- `CSMA_BE.MAX_BE` (10_state.md R41). `MIN_BE` enters no computation (90_conflicts.md C8). -/
def maxBe (g : Regs) : Nat :=
  (g.csmaBe.extractLsb' 4 4).toNat

/-- `SLEEP_CFG.FIFO_RETAIN` (10_state.md R53). -/
def fifoRetain (g : Regs) : Bool :=
  g.sleepCfg.getLsbD 0

end Sys2Proof.Machine
end

