-- ==== Sys2Proof/Machine/Flags.lean ====
section
/-! DEFINITION. The status word (10_state.md R29), the sticky error flags (60_exceptions.md R354), the events, their flags and
their pins (44_event_routing.md). The block has no other flags. -/

namespace Sys2Proof.Machine

open Sys2Proof

/-- The five error flags of `STATUS[15:11]` (10_state.md R29). -/
inductive ErrFlag where
  | cfgErr
  | cmdErr
  | lockErr
  | rxOverrun
  | txUnderflow
  deriving DecidableEq, Repr

/-- One flag set, the others kept. -/
def ErrFlags.raise (e : ErrFlags) : ErrFlag → ErrFlags
  | .cfgErr => { e with cfgErr := true }
  | .cmdErr => { e with cmdErr := true }
  | .lockErr => { e with lockErr := true }
  | .rxOverrun => { e with rxOverrun := true }
  | .txUnderflow => { e with txUnderflow := true }

/-- `SetErr(f)` (00_scope.md R10): the one operation by which the block reports a refused request or an error of its own
(60_exceptions.md R350). -/
def setErr (f : ErrFlag) (s : State) : State :=
  { s with err := s.err.raise f }

/-- `STATUS[15:11]` as five bits, CFG_ERR first. -/
def errBits (e : ErrFlags) : BitVec 5 :=
  BitVec.ofBool e.cfgErr ++ BitVec.ofBool e.cmdErr ++ BitVec.ofBool e.lockErr ++ BitVec.ofBool e.rxOverrun ++
    BitVec.ofBool e.txUnderflow

/-- The codes of 10_state.md R22. -/
def radioCode : RadioState → BitVec 3
  | .shutdown => 0
  | .standby => 1
  | .sleep => 2
  | .ready => 3
  | .locking => 4
  | .rx => 5
  | .tx => 6

/-- The codes of 10_state.md R23. -/
def pendingCode : Pending → BitVec 2
  | .none => 0
  | .tx => 1
  | .rx => 2

/-- `RX_IN_FRAME` (10_state.md R27). -/
def rxInFrame (s : State) : Bool :=
  decide (s.radio = .rx) && decide (s.rx.phase ≠ .hunt)

/-- `STATUS` computed from the current state (10_state.md R29): 0 while unpowered. -/
def statusWord (s : State) : BitVec 16 :=
  if s.powered then
    errBits s.err ++ BitVec.ofBool s.csma.active ++ pendingCode s.pending ++
      BitVec.ofBool (decide (s.txFifo.length = s.cfg.fifoCap)) ++ BitVec.ofBool (decide (s.txFifo.length = 0)) ++
      BitVec.ofBool (decide (s.rxFifo.length = s.cfg.fifoCap)) ++ BitVec.ofBool (decide (s.rxFifo.length = 0)) ++
      BitVec.ofBool (rxInFrame s) ++ radioCode s.radio
  else 0

/-- The two status bytes, `STATUS[15:8]` first (30_encoding.md R101). -/
def statusBytes (s : State) : List Byte :=
  [(statusWord s).extractLsb' 8 8, (statusWord s).extractLsb' 0 8]

/-- BUSY (00_scope.md R12). -/
def busy (s : State) : Bool :=
  decide (s.radio = .locking) || decide (s.radio = .rx) || decide (s.radio = .tx) || s.csma.active

/-- The fifteen events of 44_event_routing.md R321. -/
inductive Event where
  | rxDataReady
  | txDone
  | channelClear
  | channelBusy
  | maxRetries
  | txFifoAlmostEmpty
  | rxFifoAlmostFull
  | crcError
  | lengthMismatch
  | rxOverrun
  | rxFiltered
  | txUnderflow
  | syncDetected
  | readyReached
  | lockError
  deriving DecidableEq, Repr

/-- The selectors of 44_event_routing.md R321. -/
def eventSel : Event → Nat
  | .rxDataReady => 1
  | .txDone => 2
  | .channelClear => 3
  | .channelBusy => 4
  | .maxRetries => 5
  | .txFifoAlmostEmpty => 6
  | .rxFifoAlmostFull => 7
  | .crcError => 8
  | .lengthMismatch => 9
  | .rxOverrun => 10
  | .rxFiltered => 11
  | .txUnderflow => 12
  | .syncDetected => 13
  | .readyReached => 14
  | .lockError => 15

/-- The event's flag set in its register (44_event_routing.md R322): selectors 1 to 8 in `EVENT_FLAGS0`, 9 to 15 in
`EVENT_FLAGS1`. -/
def setEventFlag (sel : Nat) (g : Regs) : Regs :=
  if sel ≤ 8 then { g with eventFlags0 := g.eventFlags0 ||| ((1 : Byte) <<< (sel - 1)) }
  else { g with eventFlags1 := g.eventFlags1 ||| ((1 : Byte) <<< (sel - 9)) }

/-- The pins bound to a selector, in increasing index from `n` (44_event_routing.md R322). -/
def boundPins (sel : Nat) : Nat → List Byte → List Nat
  | _, [] => []
  | n, v :: vs => if gpioEn v ∧ gpioSel v = sel then n :: boundPins sel (n + 1) vs else boundPins sel (n + 1) vs

/-- `Signal(ev)` (44_event_routing.md R322): the flag, then one pulse on each bound pin (R325). -/
def signal (e : Event) (s : State) : State :=
  { s with
    regs := setEventFlag (eventSel e) s.regs
    pinTrace := s.pinTrace ++ boundPins (eventSel e) 0 s.regs.gpioCfg }

/-- The resting output level of pin `n`, true for high (10_state.md R57): low while disabled or unpowered
(70_reset_and_hazards.md R390), else the idle level of its edge. -/
def pinLevel (n : Nat) (s : State) : Bool :=
  s.powered && gpioEn (s.regs.gpioCfg.getD n 0x00#8) && gpioEdge (s.regs.gpioCfg.getD n 0x00#8)

/-- The level a pulse of pin `n` goes to and comes back from within its step (10_state.md R57, 44_event_routing.md R325). -/
def pinActiveLevel (n : Nat) (s : State) : Bool :=
  !gpioEdge (s.regs.gpioCfg.getD n 0x00#8)

end Sys2Proof.Machine
end

