-- ==== Sys2Proof/Machine/Ops.lean ====
section
/-! DEFINITION. The named operations over registers, FIFOs and transactions (40_bus_transactions.md section 1, 20_memory.md,
70_reset_and_hazards.md R391), and the block's two ways of going wrong: a refused request is `setErr` (Flags.lean), a broken
host duty is `raiseHostFault`. There is no exception entry and no return: "The block saves no state, changes no mode and
jumps nowhere when an error occurs" (60_exceptions.md R360, R361). -/

namespace Sys2Proof.Machine

open Sys2Proof

/-- `raise HostFault(info)` (60_exceptions.md R356): append the record with the index of the current transaction. The run is
stuck from the next step on (`stuckFault`, notes/assumptions/8.md). -/
def raiseHostFault (info : HostFault) (s : State) : State :=
  { s with faults := s.faults ++ [(info, s.txnIndex)] }

/-- What stops a faulted run (60_exceptions.md R356). -/
def stuckFault (s : State) : Option Fault :=
  match s.faults with
  | [] => none
  | (info, index) :: _ => some (.hostFaulted info index)

/-- `n` bytes of `Draw(0..255)` from the m-th on (00_scope.md R10). -/
def freeBytes : Nat → Nat → List Byte
  | _, 0 => []
  | m, n + 1 => Config.freeByte m :: freeBytes (m + 1) n

/-- `FifoFlush(TX FIFO)` (00_scope.md R10). -/
def flushTxFifo (s : State) : State :=
  { s with txFifo := [] }

/-- `FifoFlush(RX FIFO)` (00_scope.md R10). -/
def flushRxFifo (s : State) : State :=
  { s with rxFifo := [] }

/-- `TxFifoWrite(b)` (40_bus_transactions.md R145): `none` where the FIFO is full, HostFault(FIFO_BOUNDS). -/
def txFifoWrite (b : Byte) (s : State) : Option State :=
  if s.txFifo.length = s.cfg.fifoCap then none else some { s with txFifo := s.txFifo ++ [b] }

/-- `RxFifoRead()` (40_bus_transactions.md R147): `none` where the FIFO is empty, HostFault(FIFO_BOUNDS). -/
def rxFifoRead (s : State) : Option (Byte × State) :=
  match s.rxFifo with
  | [] => none
  | b :: rest => some (b, { s with rxFifo := rest })

/-- The value a read of register `r` returns (40_bus_transactions.md R143). -/
def readReg (r : Reg) (s : State) : Byte :=
  match r with
  | .txFifoCount => BitVec.ofNat 8 s.txFifo.length
  | .rxFifoCount => BitVec.ofNat 8 s.rxFifo.length
  | .errFlags => (errBits s.err).zeroExtend 8
  | r => regGet s.regs r

/-- A read clears the bits it returns (10_state.md R52). -/
def clearOnRead (r : Reg) (s : State) : State :=
  match r with
  | .eventFlags1 => { s with regs := { s.regs with eventFlags1 := 0x00#8 } }
  | .eventFlags0 => { s with regs := { s.regs with eventFlags0 := 0x00#8 } }
  | .errFlags => { s with err := ErrFlags.clear }
  | _ => s

/-- `RegReadByte(a)` (40_bus_transactions.md R143); `none` is HostFault(FIFO_BOUNDS). -/
def regReadByte (a : Byte) (s : State) : Option (Byte × State) :=
  if a = fifoPort then rxFifoRead s
  else
    match regAt s.cfg.numGpio a with
    | none => some (Config.freeByte s.drawIndex, { s with drawIndex := s.drawIndex + 1 })
    | some r => some (readReg r s, clearOnRead r s)

/-- The rebinding of an enabled pin to another selector (10_state.md R55). -/
def rebinds (r : Reg) (v : Byte) (s : State) : Bool :=
  match r with
  | .gpioCfg n =>
    gpioEn (regGet s.regs (.gpioCfg n)) && gpioEn v && decide (gpioSel v ≠ gpioSel (regGet s.regs (.gpioCfg n)))
  | _ => false

/-- The store of a legal masked value (40_bus_transactions.md R142): rebinding an enabled pin also reports CFG_ERR. -/
def storeReg (r : Reg) (v : Byte) (s : State) : State :=
  let s1 := if rebinds r v s then setErr .cfgErr s else s
  { s1 with regs := regSet s1.regs r v }

/-- A write to a mapped register (40_bus_transactions.md R142): RO and RC ignored, then the busy lock, then legality. -/
def writeReg (a : Byte) (r : Reg) (v : Byte) (s : State) : State :=
  if regAccess r = .rw then
    if lockedAddr a && busy s then setErr .cfgErr s
    else if regLegal s.cfg.fifoCap r (v &&& regMask r) then storeReg r (v &&& regMask r) s
    else setErr .cfgErr s
  else s

/-- `RegWriteByte(a, v)` (40_bus_transactions.md R142); `none` is HostFault(FIFO_BOUNDS). -/
def regWriteByte (a v : Byte) (s : State) : Option State :=
  if a = fifoPort then txFifoWrite v s
  else
    match regAt s.cfg.numGpio a with
    | none => some s
    | some r => some (writeReg a r v s)

/-- The address of the next byte of a burst: the port does not advance (20_memory.md R73, R79). -/
def nextAddr (a : Byte) : Byte :=
  if a = fifoPort then a else a + 1

/-- The bytes of `MemWrite` in order (40_bus_transactions.md R144). A FIFO fault keeps the effects of the bytes already
performed and drops the rest (60_exceptions.md R356). -/
def writeBytes (a : Byte) : Bytes → State → State
  | [], s => s
  | d :: ds, s =>
    match regWriteByte a d s with
    | none => raiseHostFault .fifoBounds s
    | some s1 => writeBytes (nextAddr a) ds s1

/-- The `n` bytes of `MemRead` in order (40_bus_transactions.md R146), with the bytes read. -/
def readBytes (a : Byte) : Nat → State → List Byte × State
  | 0, s => ([], s)
  | n + 1, s =>
    match regReadByte a s with
    | none => ([], raiseHostFault .fifoBounds s)
    | some (b, s1) =>
      let (bs, s2) := readBytes (nextAddr a) n s1
      (b :: bs, s2)

/-- The checks before any byte of a write or read of `n` bytes at `a`: BURST_LENGTH, then BURST_RANGE (20_memory.md R79,
40_bus_transactions.md R144, R146). -/
def burstCheck (a : Byte) (n : Nat) (s : State) : Option HostFault :=
  let tooLong : Bool :=
    match s.cfg.maxBurst with
    | none => false
    | some m => decide (m < n)
  if tooLong then some .burstLength
  else if a ≠ fifoPort ∧ 0xFE < a.toNat + n - 1 then some .burstRange
  else none

/-- `ResetAll()` (70_reset_and_hazards.md R391): every powered field at its reset value; the output records, the transaction
index and the model's own fields are kept. -/
def resetAll (s : State) : State :=
  { s with
    powered := true
    pending := .none
    regs := Regs.reset s.cfg.numGpio
    err := ErrFlags.clear
    txFifo := []
    rxFifo := []
    csma := CsmaEngine.reset
    tx := TxEngine.reset
    rx := RxEngine.reset }

/-- `state <- S` (00_scope.md R10). -/
def setRadio (r : RadioState) (s : State) : State :=
  { s with radio := r }

/-- The end of a transaction: the bytes it returned, and the host's index advanced (30_encoding.md R101, 10_state.md R21). -/
def finish (reply : List Byte) (s : State) : State :=
  { s with reply := reply, txnIndex := s.txnIndex + 1 }

/-- A transaction that returns the status `status` and then `n` bytes of `Draw(0..255)` (30_encoding.md R100, R106). -/
def finishFree (status : List Byte) (n : Nat) (s : State) : State :=
  finish (status ++ freeBytes s.drawIndex n) { s with drawIndex := s.drawIndex + n }

/-- A transaction that the host's broken duty stops before any byte: nothing is performed, nothing returned
(20_memory.md R79, notes/assumptions/8.md). -/
def finishFaulted (info : HostFault) (s : State) : State :=
  finish [] (raiseHostFault info s)

/-- Any transaction while `POWERED = 0` (40_bus_transactions.md R149), with `n` bytes after the second: status 0x00 0x00, free
bytes, and `off`, which is the power-up for PWRUP and nothing for every other transaction. -/
def unpowered (off : State → State) (n : Nat) (s : State) : State :=
  finishFree [0x00#8, 0x00#8] n (off s)

/-- A transaction's order of work (40_bus_transactions.md R140): a faulted run is stuck; an unpowered chip follows R149; else
the given powered transaction. -/
def transact (off : State → State) (n : Nat) (on : State → State) (s : State) : Host.Outcome State Fault Refusal :=
  match stuckFault s with
  | some f => .fault f
  | none => .next (if s.powered then on s else unpowered off n s)

/-- A powered transaction whose returned data bytes are free: strobes and reserved headers (30_encoding.md R106,
40_bus_transactions.md R150). The status is the snapshot from before `effect` (R141). -/
def command (effect : State → State) (n : Nat) (s : State) : State :=
  finishFree (statusBytes s) n (effect s)

/-- `MemWrite(a, n, d)` as a powered transaction (40_bus_transactions.md R144). -/
def memWrite (a : Byte) (d : Bytes) (s : State) : State :=
  match burstCheck a d.length s with
  | some info => finishFaulted info s
  | none => finishFree (statusBytes s) d.length (writeBytes a d s)

/-- `MemRead(a, n)` as a powered transaction (40_bus_transactions.md R146). -/
def memRead (a : Byte) (n : Nat) (s : State) : State :=
  match burstCheck a n s with
  | some info => finishFaulted info s
  | none =>
    let (bs, s1) := readBytes a n s
    finish (statusBytes s ++ bs) s1

/-- A strobe transaction with `n` ignored bytes after its code (30_encoding.md R106, 41_state_machine.md). -/
def strobe (effect : State → State) (n : Nat) (s : State) : Host.Outcome State Fault Refusal :=
  transact id n (command effect n) s

end Sys2Proof.Machine
end

