-- ==== Sys2Proof/Machine/Bus.lean ====
section
/-! DEFINITION. The meanings of the register, FIFO and poll transactions and of reserved headers (40_bus_transactions.md). -/

namespace Sys2Proof.Machine

open Sys2Proof

/-- POLL (40_bus_transactions.md R148): the snapshot is returned and nothing changes. -/
def execPoll (_form : PollForm) (_addr : Byte) (s : State) : Host.Outcome State Fault Refusal :=
  transact id 0 (command id 0) s

/-- FIFO_WRITE (40_bus_transactions.md R145). -/
def execFifoWrite (data : Bytes) (s : State) : Host.Outcome State Fault Refusal :=
  transact id data.length (memWrite fifoPort data) s

/-- WRITE (40_bus_transactions.md R144). -/
def execWrite (addr datum : Byte) (s : State) : Host.Outcome State Fault Refusal :=
  transact id 1 (memWrite addr [datum]) s

/-- BURST_WRITE (40_bus_transactions.md R144). -/
def execBurstWrite (addr : Byte) (data : Bytes) (s : State) : Host.Outcome State Fault Refusal :=
  transact id data.length (memWrite addr data) s

/-- FIFO_READ (40_bus_transactions.md R147). -/
def execFifoRead (dummies : Bytes) (s : State) : Host.Outcome State Fault Refusal :=
  transact id dummies.length (memRead fifoPort dummies.length) s

/-- READ (40_bus_transactions.md R146). -/
def execRead (addr _dummy : Byte) (s : State) : Host.Outcome State Fault Refusal :=
  transact id 1 (memRead addr 1) s

/-- BURST_READ (40_bus_transactions.md R146). -/
def execBurstRead (addr : Byte) (dummies : Bytes) (s : State) : Host.Outcome State Fault Refusal :=
  transact id dummies.length (memRead addr dummies.length) s

/-- RESERVED_HEADER (40_bus_transactions.md R150): CMD_ERR, and free bytes after the status. -/
def execReservedHeader (_header _second : Byte) (tail : Bytes) (s : State) : Host.Outcome State Fault Refusal :=
  transact id tail.length (command (setErr .cmdErr) tail.length) s

end Sys2Proof.Machine
end

