-- ==== Sys2Proof/Machine/Frame.lean ====
section
/-! DEFINITION. The pure functions of the packet engine (42_packet_engine.md section 1, 30_encoding.md section 4): the frame
`[preamble][sync][length][address?][control?][payload][CRC]`, the CRC, the address filter, `Encode` and `Decode`. -/

namespace Sys2Proof.Machine

open Sys2Proof

/-- The low `n` bytes of `v`, most significant first (20_memory.md R71). -/
def bytesBE : Nat → BitVec 32 → List Byte
  | 0, _ => []
  | n + 1, v => v.extractLsb' (8 * n) 8 :: bytesBE n v

/-- `Pre(cfg)` (42_packet_engine.md R220, 30_encoding.md R120). -/
def preamble (f : FrameCfg) : List Byte :=
  List.replicate f.preambleLen 0xAA#8

/-- `Sync(cfg)` (42_packet_engine.md R220, 30_encoding.md R121). -/
def syncWord (f : FrameCfg) : List Byte :=
  bytesBE f.syncLen f.sync

/-- `LenField(cfg, L)` (42_packet_engine.md R221). -/
def lenField (f : FrameCfg) (l : Nat) : List Byte :=
  if f.lenWide then [BitVec.ofNat 8 (l / 256), BitVec.ofNat 8 l] else [BitVec.ofNat 8 l]

/-- The `W` low bits (42_packet_engine.md R223: `mod 2^W`). -/
def crcMask (m : CrcMode) : BitVec 32 :=
  BitVec.ofNat 32 (2 ^ crcWidth m - 1)

/-- One bit of `CrcStep` (42_packet_engine.md R223). -/
def crcBit (m : CrcMode) (acc : BitVec 32) (b : Bool) : BitVec 32 :=
  let fb := b ^^ acc.getLsbD (crcWidth m - 1)
  let shifted := (acc <<< 1) &&& crcMask m
  if fb then shifted ^^^ crcPoly m else shifted

/-- The bits of a byte, most significant first (20_memory.md R71). -/
def bitsMsbFirst (b : Byte) : List Bool :=
  [b.getLsbD 7, b.getLsbD 6, b.getLsbD 5, b.getLsbD 4, b.getLsbD 3, b.getLsbD 2, b.getLsbD 1, b.getLsbD 0]

/-- `CrcStep(W, POLY, acc, b)` (42_packet_engine.md R223), the accumulator in the low `W` of 32 bits. -/
def crcStep (m : CrcMode) (acc : BitVec 32) (b : Byte) : BitVec 32 :=
  (bitsMsbFirst b).foldl (crcBit m) acc

/-- `CrcStep` where a CRC is configured (42_packet_engine.md R231, R238: "only if CRC_MODE != 0"). -/
def crcUpdate (m : CrcMode) (acc : BitVec 32) (b : Byte) : BitVec 32 :=
  if m = .none then acc else crcStep m acc b

/-- The accumulator at the start of a frame (42_packet_engine.md R229, R237). -/
def crcStart (f : FrameCfg) : BitVec 32 :=
  if f.crcMode = .none then 0 else crcInitOf f.crcInit f.crcMode

/-- `Crc(cfg, s)` (42_packet_engine.md R223). -/
def crc (f : FrameCfg) (bs : List Byte) : BitVec 32 :=
  bs.foldl (crcStep f.crcMode) (crcInitOf f.crcInit f.crcMode)

/-- `CrcBytes(cfg, v)` (42_packet_engine.md R224); no byte without a CRC. -/
def crcBytes (f : FrameCfg) (v : BitVec 32) : List Byte :=
  bytesBE (crcCount f) v

/-- The address field, present with `ADDR_EN` (30_encoding.md R123). -/
def addrField (f : FrameCfg) (dest : Byte) : List Byte :=
  if f.addrEn then [dest] else []

/-- The control field, present with `CTRL_EN` (30_encoding.md R124). -/
def ctrlField (f : FrameCfg) (ctrl : Byte) : List Byte :=
  if f.ctrlEn then [ctrl] else []

/-- The bytes between the sync word and the payload (`Hdr` of 42_packet_engine.md R230) for a payload of `p` bytes. -/
def header (f : FrameCfg) (p : Nat) (dest ctrl : Byte) : List Byte :=
  lenField f (p + overhead f) ++ addrField f dest ++ ctrlField f ctrl

/-- The CRC field over a region (42_packet_engine.md R225). -/
def trailer (f : FrameCfg) (region : List Byte) : List Byte :=
  if f.crcMode = .none then [] else crcBytes f (crc f region)

/-- `Encode(cfg, payload, dest, ctrl)` (42_packet_engine.md R225); `none` where `L > LMAX`: there is no frame. -/
def encodeFrame (f : FrameCfg) (payload : List Byte) (dest ctrl : Byte) : Option (List Byte) :=
  if payload.length + overhead f ≤ lenMax f then
    let region := header f payload.length dest ctrl ++ payload
    some (preamble f ++ syncWord f ++ region ++ trailer f region)
  else none

/-- `Accepts(cfg, a)`, the address filter (42_packet_engine.md R226). -/
def accepts (f : FrameCfg) (a : Byte) : Bool :=
  !f.filtEn || a == f.localAddr || (f.bcastEn && a == f.bcastAddr)

/-- The outcomes of `Decode` (42_packet_engine.md R227). -/
inductive FrameResult where
  | accept (payload : List Byte) (addr ctrl : Option Byte)
  | syncNotFound
  | lengthMismatch
  | crcError
  | filtered
  deriving DecidableEq, Repr

/-- The value of a length field's bytes, most significant first (42_packet_engine.md R227). -/
def lenValue : List Byte → Nat
  | [] => 0
  | [a] => a.toNat
  | a :: b :: _ => a.toNat * 256 + b.toNat

/-- The checks of `Decode` after the length checks: the CRC, then the filter (42_packet_engine.md R227, R228). `region` is the
length, address, control and payload bytes, `received` the CRC field. -/
def judgeFrame (f : FrameCfg) (region received : List Byte) : FrameResult :=
  let lw := lenBytesCount f
  let addr := if f.addrEn then region[lw]? else none
  let ctrl := if f.ctrlEn then region[lw + f.addrEn.toNat]? else none
  if f.crcMode ≠ .none ∧ received ≠ crcBytes f (crc f region) then .crcError
  else if f.filtEn ∧ accepts f (addr.getD 0x00#8) = false then .filtered
  else .accept (region.drop (lw + overhead f)) addr ctrl

/-- `Decode` of a frame's body, the bytes after the sync word (42_packet_engine.md R227). -/
def decodeBody (f : FrameCfg) (body : List Byte) : FrameResult :=
  let lw := lenBytesCount f
  let l := lenValue (body.take lw)
  if body.length < lw then .lengthMismatch
  else if l < overhead f then .lengthMismatch
  else if body.length ≠ lw + l + crcCount f then .lengthMismatch
  else judgeFrame f (body.take (lw + l)) (body.drop (lw + l))

/-- `Decode(cfg, raw)` (42_packet_engine.md R227). -/
def decodeFrame (f : FrameCfg) (raw : List Byte) : FrameResult :=
  let h := f.preambleLen + f.syncLen
  if raw.length < h ∨ raw.take h ≠ preamble f ++ syncWord f then .syncNotFound
  else decodeBody f (raw.drop h)

end Sys2Proof.Machine
end

