-- ==== Sys2Proof/Machine/Receive.lean ====
section
/-! DEFINITION. The RX deserializer (42_packet_engine.md section 3). -/

namespace Sys2Proof.Machine

open Sys2Proof

/-- `StartRx()` (42_packet_engine.md R236). -/
def startRx (s : State) : State :=
  { s with radio := .rx, rx := { s.rx with phase := .hunt } }

/-- `RX_PHASE <- q`. -/
def setRxPhase (q : RxPhase) (s : State) : State :=
  { s with rx := { s.rx with phase := q } }

/-- `RX_RESULT <- v` (10_state.md R50). -/
def setRxResult (v : Byte) (s : State) : State :=
  { s with regs := { s.regs with rxResult := v } }

/-- `FailFrame()` (42_packet_engine.md R248). -/
def failFrame (s : State) : State :=
  setRxPhase .hunt (flushRxFifo s)

/-- `Overrun()` (42_packet_engine.md R243). -/
def overrun (s : State) : State :=
  failFrame (signal .rxOverrun (setErr .rxOverrun (setRxResult 4#8 s)))

/-- `LengthMismatch()` (42_packet_engine.md R244). -/
def lengthMismatch (s : State) : State :=
  failFrame (signal .lengthMismatch (setRxResult 3#8 s))

/-- `AcceptFrame()` (42_packet_engine.md R246). -/
def acceptFrame (s : State) : State :=
  signal .readyReached (signal .rxDataReady (setRadio .ready (setRxPhase .hunt (setRxResult 1#8 s))))

/-- `FrameEnd()` (42_packet_engine.md R245): the CRC, then the filter. -/
def frameEnd (s : State) : State :=
  if (frameCfgOf s).crcMode ≠ .none ∧ s.rx.crcRecv ≠ s.rx.crcAcc then
    failFrame (signal .crcError (setRxResult 2#8 s))
  else if (frameCfgOf s).filtEn ∧ accepts (frameCfgOf s) s.regs.rxAddr = false then
    failFrame (signal .rxFiltered (setRxResult 5#8 s))
  else acceptFrame s

/-- The phases after one in frame order (42_packet_engine.md R238). -/
def phasesAfter : RxPhase → List RxPhase
  | .hunt => []
  | .len => [.addr, .ctrl, .payload, .crc]
  | .addr => [.ctrl, .payload, .crc]
  | .ctrl => [.payload, .crc]
  | .payload => [.crc]
  | .crc => []

/-- Whether a phase's field is present in the frame (42_packet_engine.md R238). -/
def phasePresent (s : State) : RxPhase → Bool
  | .hunt => false
  | .len => true
  | .addr => (frameCfgOf s).addrEn
  | .ctrl => (frameCfgOf s).ctrlEn
  | .payload => decide (0 < s.rx.payloadLeft.toNat)
  | .crc => decide (0 < crcCount (frameCfgOf s))

/-- `Advance(from)` (42_packet_engine.md R238): the next present phase, or the end of the frame. -/
def advance (p : RxPhase) (s : State) : State :=
  match (phasesAfter p).find? (phasePresent s) with
  | some q => setRxPhase q s
  | none => frameEnd s

/-- The bits of a received byte shifted into the length value (42_packet_engine.md R239). -/
def shiftLen (l : BitVec 16) (b : Byte) : BitVec 16 :=
  (l <<< 8) ||| b.zeroExtend 16

/-- `{RX_LEN1, RX_LEN0} <- RX_L` (10_state.md R48). -/
def storeRxLen (l : BitVec 16) (s : State) : State :=
  { s with regs := { s.regs with rxLen1 := l.extractLsb' 8 8, rxLen0 := l.extractLsb' 0 8 } }

/-- The length field is complete (42_packet_engine.md R239). -/
def rxLenDone (s : State) : State :=
  let s1 := storeRxLen s.rx.len s
  if s1.rx.len.toNat < overhead (frameCfgOf s1) then lengthMismatch s1
  else
    advance .len
      { s1 with rx := { s1.rx with payloadLeft := s1.rx.len - BitVec.ofNat 16 (overhead (frameCfgOf s1)) } }

/-- `RxLen(b)` (42_packet_engine.md R239). -/
def rxLen (b : Byte) (s : State) : State :=
  let s1 := { s with rx := { s.rx with len := shiftLen s.rx.len b, lenGot := s.rx.lenGot + 1 } }
  if s1.rx.lenGot.toNat = lenBytesCount (frameCfgOf s1) then rxLenDone s1 else s1

/-- `RxAddr(b)` (42_packet_engine.md R240). -/
def rxAddr (b : Byte) (s : State) : State :=
  advance .addr { s with regs := { s.regs with rxAddr := b } }

/-- `RxCtrl(b)` (42_packet_engine.md R241). -/
def rxCtrl (b : Byte) (s : State) : State :=
  advance .ctrl { s with regs := { s.regs with rxCtrl := b } }

/-- The threshold check of `RxPush(b)` after the push (44_event_routing.md R324). -/
def rxThreshold (s : State) : State :=
  if s.rxFifo.length = s.regs.rxFifoThr.toNat then signal .rxFifoAlmostFull s else s

/-- `RxPush(b)` (44_event_routing.md R324). -/
def rxPush (b : Byte) (s : State) : State :=
  rxThreshold { s with rxFifo := s.rxFifo ++ [b] }

/-- `RxPayload(b)` (42_packet_engine.md R242). -/
def rxPayload (b : Byte) (s : State) : State :=
  if s.rxFifo.length = s.cfg.fifoCap then overrun s
  else
    let s1 := rxPush b s
    let s2 := { s1 with rx := { s1.rx with payloadLeft := s1.rx.payloadLeft - 1 } }
    if s2.rx.payloadLeft = 0 then advance .payload s2 else s2

/-- The received CRC value with one more byte (42_packet_engine.md R247: `mod 2^W`). -/
def shiftCrc (m : CrcMode) (v : BitVec 32) (b : Byte) : BitVec 32 :=
  ((v <<< 8) ||| b.zeroExtend 32) &&& crcMask m

/-- `RxCrc(b)` (42_packet_engine.md R247). -/
def rxCrc (b : Byte) (s : State) : State :=
  let s1 :=
    { s with
      rx := { s.rx with crcRecv := shiftCrc (frameCfgOf s).crcMode s.rx.crcRecv b, crcGot := s.rx.crcGot + 1 } }
  if s1.rx.crcGot.toNat = crcCount (frameCfgOf s1) then frameEnd s1 else s1

/-- The running CRC over a byte of the CRC region (42_packet_engine.md R238). -/
def rxCrcUpdate (b : Byte) (s : State) : State :=
  { s with rx := { s.rx with crcAcc := crcUpdate (frameCfgOf s).crcMode s.rx.crcAcc b } }

/-- `RxByte(b)` (42_packet_engine.md R238); in HUNT it is not enabled. -/
def rxByte (b : Byte) (s : State) : State :=
  match s.rx.phase with
  | .hunt => s
  | .len => rxLen b (rxCrcUpdate b s)
  | .addr => rxAddr b (rxCrcUpdate b s)
  | .ctrl => rxCtrl b (rxCrcUpdate b s)
  | .payload => rxPayload b (rxCrcUpdate b s)
  | .crc => rxCrc b s

/-- `SyncDetected()` (42_packet_engine.md R237). -/
def syncDetected (s : State) : State :=
  signal .syncDetected
    { s with
      rx :=
        { s.rx with
          phase := .len
          lenGot := 0
          len := 0
          crcGot := 0
          crcRecv := 0
          crcAcc := crcStart (frameCfgOf s) } }

/-- `RSSI_LEVEL <- v` (10_state.md R47); all that `RssiSample(v)` does in RX (42_packet_engine.md R249). -/
def setRssi (v : Byte) (s : State) : State :=
  { s with regs := { s.regs with rssiLevel := v } }

end Sys2Proof.Machine
end

