-- ==== Sys2Proof/Machine/Transmit.lean ====
section
/-! DEFINITION. The TX serializer (42_packet_engine.md section 2). -/

namespace Sys2Proof.Machine

open Sys2Proof

/-- `h0`: index of the first length-field byte (42_packet_engine.md R230). -/
def txH0 (s : State) : Nat :=
  (frameCfgOf s).preambleLen + (frameCfgOf s).syncLen

/-- `p0`: index of the first payload byte (42_packet_engine.md R230). -/
def txP0 (s : State) : Nat :=
  txH0 s + lenBytesCount (frameCfgOf s) + overhead (frameCfgOf s)

/-- `c0`: index of the first CRC byte (42_packet_engine.md R230). -/
def txC0 (s : State) : Nat :=
  txP0 s + pktLen s.regs

/-- `N`: the frame length in bytes (42_packet_engine.md R230, 30_encoding.md R114). -/
def txN (s : State) : Nat :=
  txC0 s + crcCount (frameCfgOf s)

/-- `Hdr` (42_packet_engine.md R230). -/
def txHdr (s : State) : List Byte :=
  header (frameCfgOf s) (pktLen s.regs) s.regs.txDestAddr s.regs.txCtrl

/-- `StartTx()` (42_packet_engine.md R229). -/
def startTx (s : State) : State :=
  { s with radio := .tx, tx := { pos := 0, crcAcc := crcStart (frameCfgOf s) } }

/-- `EmitAir(b)` (00_scope.md R10). -/
def emitAir (b : Byte) (s : State) : State :=
  { s with airOut := s.airOut ++ [b] }

/-- `TxDone()` (42_packet_engine.md R233). -/
def txDone (s : State) : State :=
  signal .readyReached (signal .txDone (setRadio .ready s))

/-- `TxUnderflow()` (42_packet_engine.md R234). -/
def txUnderflow (s : State) : State :=
  signal .readyReached (setRadio .ready (signal .txUnderflow (setErr .txUnderflow s)))

/-- `TxAbort()` (42_packet_engine.md R235). -/
def txAbort (s : State) : State :=
  flushTxFifo s

/-- The threshold check of `TxPop()` after the pop (44_event_routing.md R324). -/
def txThreshold (s : State) : State :=
  if s.txFifo.length = s.regs.txFifoThr.toNat then signal .txFifoAlmostEmpty s else s

/-- `TxPop()` (44_event_routing.md R324); `none` where the TX FIFO is empty. -/
def txPop (s : State) : Option (Byte × State) :=
  match s.txFifo with
  | [] => none
  | b :: rest => some (b, txThreshold { s with txFifo := rest })

/-- The running CRC over a length, address, control or payload byte (42_packet_engine.md R231). -/
def txCrc (b : Byte) (s : State) : State :=
  { s with tx := { s.tx with crcAcc := crcUpdate (frameCfgOf s).crcMode s.tx.crcAcc b } }

/-- `EmitAir(b)`, `TX_POS <- i + 1` and the end of the frame (42_packet_engine.md R231). -/
def txAdvance (b : Byte) (s : State) : State :=
  let s1 := emitAir b { s with tx := { s.tx with pos := s.tx.pos + 1 } }
  if s1.tx.pos = txN s1 then txDone s1 else s1

/-- `TxEmit()` where it is enabled (42_packet_engine.md R231). -/
def txEmit (s : State) : State :=
  if s.tx.pos < txH0 s then
    txAdvance ((preamble (frameCfgOf s) ++ syncWord (frameCfgOf s)).getD s.tx.pos 0x00#8) s
  else if s.tx.pos < txP0 s then
    let b := (txHdr s).getD (s.tx.pos - txH0 s) 0x00#8
    txAdvance b (txCrc b s)
  else if s.tx.pos < txC0 s then
    match txPop s with
    | none => txUnderflow s
    | some (b, s1) => txAdvance b (txCrc b s1)
  else
    txAdvance ((crcBytes (frameCfgOf s) s.tx.crcAcc).getD (s.tx.pos - txC0 s) 0x00#8) s

end Sys2Proof.Machine
end

