-- ==== Sys2Proof/Machine/Csma.lean ====
section
/-! DEFINITION. The CSMA/CA engine (43_csma_engine.md). -/

namespace Sys2Proof.Machine

open Sys2Proof

/-- `BeginAttempt()` (43_csma_engine.md R282). -/
def beginAttempt (s : State) : State :=
  { s with
    regs := { s.regs with csmaAttempts := s.regs.csmaAttempts + 1 }
    csma := { s.csma with phase := .sense, samplesLeft := s.regs.senseWindow, busySeen := false } }

/-- `StartCsma()` (43_csma_engine.md R280). -/
def startCsma (s : State) : State :=
  beginAttempt
    { s with
      regs := { s.regs with csmaResult := 0#8, csmaAttempts := 0#8 }
      csma := { s.csma with active := true } }

/-- `CSMA_ACTIVE <- 0` with the run's result (10_state.md R51). -/
def endCsma (result : Byte) (s : State) : State :=
  { s with
    regs := { s.regs with csmaResult := result }
    csma := { s.csma with active := false } }

/-- `ChannelIdle()` (43_csma_engine.md R284): hand-off to the TX serializer in the same step. -/
def channelIdle (s : State) : State :=
  startTx (signal .channelClear (endCsma 1#8 s))

/-- `ChannelBusy()` (43_csma_engine.md R286). -/
def channelBusy (s : State) : State :=
  signal .channelBusy (endCsma 2#8 s)

/-- `MaxRetries()` (43_csma_engine.md R289). -/
def maxRetries (s : State) : State :=
  signal .maxRetries (endCsma 3#8 s)

/-- The exponent `e` of the backoff bound (43_csma_engine.md R285). -/
def backoffExp (s : State) : Nat :=
  min s.regs.csmaAttempts.toNat (maxBe s.regs)

/-- `StartBackoff()` with the draw `k` of the step, taken into `[0, 2^e - 1]` (43_csma_engine.md R285, R293,
notes/assumptions/5.md). -/
def startBackoff (k : Nat) (s : State) : State :=
  let ticks := (k % 2 ^ backoffExp s) * boUnit s.regs
  let s1 := { s with csma := { s.csma with phase := .backoff, ticksLeft := ticks } }
  if ticks = 0 then beginAttempt s1 else s1

/-- `WindowEnd()` (43_csma_engine.md R283). -/
def windowEnd (k : Nat) (s : State) : State :=
  if s.csma.busySeen = false then channelIdle s
  else if csmaPersist s.regs = false then channelBusy s
  else if s.regs.csmaAttempts = s.regs.csmaMaxRetry then maxRetries s
  else startBackoff k s

/-- `CsmaSample(v)` where it is enabled (43_csma_engine.md R283): a sample strictly above `RSSI_THRESH` is busy. -/
def csmaSample (v : Byte) (k : Nat) (s : State) : State :=
  let s1 := setRssi v s
  let s2 :=
    { s1 with
      csma :=
        { s1.csma with
          busySeen := s1.csma.busySeen || decide (s1.regs.rssiThresh.toNat < v.toNat)
          samplesLeft := s1.csma.samplesLeft - 1 } }
  if s2.csma.samplesLeft = 0 then windowEnd k s2 else s2

/-- `BackoffEnd()` (43_csma_engine.md R288). -/
def backoffEnd (s : State) : State :=
  beginAttempt s

/-- `Tick()` where it is enabled (43_csma_engine.md R287). -/
def csmaTick (s : State) : State :=
  let s1 := { s with csma := { s.csma with ticksLeft := s.csma.ticksLeft - 1 } }
  if s1.csma.ticksLeft = 0 then backoffEnd s1 else s1

end Sys2Proof.Machine
end

