-- ==== Sys2Proof/Machine/Radio.lean ====
section
/-! DEFINITION. The radio state machine's shared operations (41_state_machine.md): what TX and RX do in READY, also for a
request carried out at lock, and the lock result. -/

namespace Sys2Proof.Machine

open Sys2Proof

/-- `StartTxOrCsma()` (41_state_machine.md R182). -/
def startTxOrCsma (s : State) : State :=
  if csmaEn s.regs then startCsma s else startTx s

/-- `TxStrobeInReady()` (41_state_machine.md R181). -/
def txStrobeInReady (s : State) : State :=
  if lenMax (frameCfgOf s) < pktLen s.regs + overhead (frameCfgOf s) then setErr .cfgErr s else startTxOrCsma s

/-- `RxStrobeInReady()` (41_state_machine.md R180). -/
def rxStrobeInReady (s : State) : State :=
  if (frameCfgOf s).filtEn ∧ (frameCfgOf s).addrEn = false then setErr .cfgErr s else startRx s

/-- `PENDING <- p` (10_state.md R23). -/
def setPending (p : Pending) (s : State) : State :=
  { s with pending := p }

/-- READY with no CSMA run, "READY/idle" of 41_state_machine.md R171. -/
def readyIdle (s : State) : Bool :=
  decide (s.radio = .ready) && !s.csma.active

/-- A pending request carried out at lock success (41_state_machine.md R187). -/
def carryOut (p : Pending) (s : State) : State :=
  match p with
  | .none => s
  | .tx => txStrobeInReady s
  | .rx => rxStrobeInReady s

/-- `LockResult(ok)` where it is enabled (41_state_machine.md R186, R187). -/
def lockResult (ok : Bool) (s : State) : State :=
  if ok then
    carryOut s.pending (setPending .none (signal .readyReached (setRadio .ready s)))
  else
    signal .lockError (setErr .lockErr (setPending .none (setRadio .standby s)))

end Sys2Proof.Machine
end

