-- ==== Sys2Proof/Machine/Strobes.lean ====
section
/-! DEFINITION. The meanings of the command strobes (41_state_machine.md). Each effect below is the strobe's pseudocode in the
powered states; the cells of the legality table R171 follow from them. -/

namespace Sys2Proof.Machine

open Sys2Proof

/-- Power-up (41_state_machine.md R170, the branch `POWERED == 0`). -/
def powerUp (s : State) : State :=
  setRadio .standby (resetAll s)

/-- SRES's effect (41_state_machine.md R172). -/
def sresEffect (s : State) : State :=
  setRadio .standby (resetAll s)

/-- READY's effect (41_state_machine.md R173). -/
def readyEffect (s : State) : State :=
  if s.radio = .standby ∨ s.radio = .sleep then setPending .none (setRadio .locking s)
  else if readyIdle s then s
  else if s.radio = .locking then s
  else setErr .cmdErr s

/-- STANDBY's effect (41_state_machine.md R174). -/
def standbyEffect (s : State) : State :=
  if readyIdle s then setRadio .standby s
  else if s.radio = .standby then s
  else setErr .cmdErr s

/-- SLEEP's effect (41_state_machine.md R175). -/
def sleepEffect (s : State) : State :=
  if readyIdle s then
    setRadio .sleep (if fifoRetain s.regs then s else flushRxFifo (flushTxFifo s))
  else if s.radio = .sleep then s
  else setErr .cmdErr s

/-- RX's effect (41_state_machine.md R180, R184). -/
def rxEffect (s : State) : State :=
  if readyIdle s then rxStrobeInReady s
  else if s.radio = .locking then setPending .rx s
  else setErr .cmdErr s

/-- TX's effect (41_state_machine.md R181, R184). -/
def txEffect (s : State) : State :=
  if readyIdle s then txStrobeInReady s
  else if s.radio = .locking then setPending .tx s
  else setErr .cmdErr s

/-- SABORT's effect (41_state_machine.md R176, 43_csma_engine.md R291). -/
def sabortEffect (s : State) : State :=
  match s.radio with
  | .tx => signal .readyReached (setRadio .ready (txAbort s))
  | .rx =>
    signal .readyReached (setRadio .ready (if s.rx.phase ≠ .hunt then flushRxFifo s else s))
  | .ready => if s.csma.active then endCsma 4#8 s else s
  | .locking => setRadio .standby (setPending .none s)
  | .standby => s
  | .sleep => s
  | .shutdown => s

/-- FLUSHTX's effect (41_state_machine.md R177). -/
def flushtxEffect (s : State) : State :=
  if s.radio = .tx ∨ s.csma.active = true then setErr .cmdErr s else flushTxFifo s

/-- FLUSHRX's effect (41_state_machine.md R178). -/
def flushrxEffect (s : State) : State :=
  flushRxFifo s

/-- PWRUP (41_state_machine.md R170): the power-up while unpowered, CMD_ERR while powered. -/
def execPwrup (tail : Bytes) (s : State) : Host.Outcome State Fault Refusal :=
  transact powerUp tail.length (command (setErr .cmdErr) tail.length) s

/-- SRES (41_state_machine.md R172). -/
def execSres (tail : Bytes) (s : State) : Host.Outcome State Fault Refusal :=
  strobe sresEffect tail.length s

/-- READY (41_state_machine.md R173). -/
def execReady (tail : Bytes) (s : State) : Host.Outcome State Fault Refusal :=
  strobe readyEffect tail.length s

/-- STANDBY (41_state_machine.md R174). -/
def execStandby (tail : Bytes) (s : State) : Host.Outcome State Fault Refusal :=
  strobe standbyEffect tail.length s

/-- SLEEP (41_state_machine.md R175). -/
def execSleep (tail : Bytes) (s : State) : Host.Outcome State Fault Refusal :=
  strobe sleepEffect tail.length s

/-- RX (41_state_machine.md R180). -/
def execRx (tail : Bytes) (s : State) : Host.Outcome State Fault Refusal :=
  strobe rxEffect tail.length s

/-- TX (41_state_machine.md R181). -/
def execTx (tail : Bytes) (s : State) : Host.Outcome State Fault Refusal :=
  strobe txEffect tail.length s

/-- SABORT (41_state_machine.md R176). -/
def execSabort (tail : Bytes) (s : State) : Host.Outcome State Fault Refusal :=
  strobe sabortEffect tail.length s

/-- FLUSHTX (41_state_machine.md R177). -/
def execFlushtx (tail : Bytes) (s : State) : Host.Outcome State Fault Refusal :=
  strobe flushtxEffect tail.length s

/-- FLUSHRX (41_state_machine.md R178). -/
def execFlushrx (tail : Bytes) (s : State) : Host.Outcome State Fault Refusal :=
  strobe flushrxEffect tail.length s

/-- A reserved strobe code (41_state_machine.md R179): CMD_ERR and nothing else. -/
def execReservedStrobe (_code : Byte) (tail : Bytes) (s : State) : Host.Outcome State Fault Refusal :=
  strobe (setErr .cmdErr) tail.length s

end Sys2Proof.Machine
end

