-- ==== Sys2Proof/Machine/Dispatch.lean ====
section
/-! DEFINITION. One arm per constructor of `Instr`: the meaning of each row of spec/opcode_table.json. -/

namespace Sys2Proof.Machine

open Sys2Proof

def exec (i : Instr) (s : State) : Host.Outcome State Fault Refusal :=
  match i with
  | .poll form addr => Sys2Proof.Machine.execPoll form addr s
  | .fifoWrite data => Sys2Proof.Machine.execFifoWrite data s
  | .write addr datum => Sys2Proof.Machine.execWrite addr datum s
  | .burstWrite addr data => Sys2Proof.Machine.execBurstWrite addr data s
  | .fifoRead dummies => Sys2Proof.Machine.execFifoRead dummies s
  | .read addr dummy => Sys2Proof.Machine.execRead addr dummy s
  | .burstRead addr dummies => Sys2Proof.Machine.execBurstRead addr dummies s
  | .pwrup tail => Sys2Proof.Machine.execPwrup tail s
  | .sres tail => Sys2Proof.Machine.execSres tail s
  | .ready tail => Sys2Proof.Machine.execReady tail s
  | .standby tail => Sys2Proof.Machine.execStandby tail s
  | .sleep tail => Sys2Proof.Machine.execSleep tail s
  | .rx tail => Sys2Proof.Machine.execRx tail s
  | .tx tail => Sys2Proof.Machine.execTx tail s
  | .sabort tail => Sys2Proof.Machine.execSabort tail s
  | .flushtx tail => Sys2Proof.Machine.execFlushtx tail s
  | .flushrx tail => Sys2Proof.Machine.execFlushrx tail s
  | .reservedStrobe code tail => Sys2Proof.Machine.execReservedStrobe code tail s
  | .reservedHeader header second tail => Sys2Proof.Machine.execReservedHeader header second tail s

end Sys2Proof.Machine
end

