-- ==== Sys2Proof/Machine/Environment.lean ====
section
/-! DEFINITION. The engine and environment steps (00_scope.md R11): which are enabled, and what each does. A scheduled step
that is not enabled does nothing (notes/assumptions/3.md). -/

namespace Sys2Proof.Machine

open Sys2Proof

/-- Whether a step is enabled: TxEmit in TX (42_packet_engine.md R231), LockResult in LOCKING (41_state_machine.md R185),
RssiSample in RX (42_packet_engine.md R249), CsmaSample and Tick in their phase of a CSMA run in READY (43_csma_engine.md R281,
R283, R287), SyncDetected in HUNT and RxByte and CarrierLost in a frame (42_packet_engine.md R237, R238, R244). The host may
always send a transaction. -/
def inputEnabled (e : Input) (s : State) : Bool :=
  match e with
  | .transaction _ => true
  | .txEmit => decide (s.radio = .tx)
  | .lockResult _ => decide (s.radio = .locking)
  | .rssiSample _ => decide (s.radio = .rx)
  | .csmaSample _ _ => decide (s.radio = .ready) && s.csma.active && decide (s.csma.phase = .sense)
  | .tick => decide (s.radio = .ready) && s.csma.active && decide (s.csma.phase = .backoff)
  | .syncDetected => decide (s.radio = .rx) && decide (s.rx.phase = .hunt)
  | .rxByte _ => rxInFrame s
  | .carrierLost => rxInFrame s

/-- The effect of an enabled engine or environment step. -/
def inputEffect (e : Input) (s : State) : State :=
  match e with
  | .transaction _ => s
  | .txEmit => txEmit s
  | .lockResult ok => lockResult ok s
  | .rssiSample v => setRssi v s
  | .csmaSample v k => csmaSample v k s
  | .tick => csmaTick s
  | .syncDetected => syncDetected s
  | .rxByte b => rxByte b s
  | .carrierLost => lengthMismatch s

/-- An engine or environment step as scheduled. -/
def envStep (e : Input) (s : State) : State :=
  if inputEnabled e s then inputEffect e s else s

end Sys2Proof.Machine
end

