-- ==== Sys2Proof/Machine/Fetch.lean ====
section
/-! DEFINITION. How a scheduled step becomes a step of the machine: a host transaction's bytes are decoded and run, any other
step is an engine or environment step (00_scope.md R11, 40_bus_transactions.md R140). -/

namespace Sys2Proof.Machine

open Sys2Proof

/-- A host transaction. Fewer than two bytes are no transaction: nothing changes (30_encoding.md R103,
notes/assumptions/13.md). -/
def runTransaction (bytes : Bytes) (s : State) : Host.Outcome State Fault Refusal :=
  match decode s.cfg.strobeCode bytes with
  | .ok i => exec i s
  | .error _ => .next s

/-- One scheduled step. -/
def runInput (e : Input) (s : State) : Host.Outcome State Fault Refusal :=
  match e with
  | .transaction bytes => runTransaction bytes s
  | e => .next (envStep e s)

/-- The first scheduled step is taken off `input` and performed. With nothing scheduled the block waits: it stays "for as long
as no step moves it" (41_state_machine.md R190, notes/assumptions/2.md). -/
def runNext (s : State) : Host.Outcome State Fault Refusal :=
  match s.input with
  | [] => .next s
  | e :: rest => runInput e { s with input := rest }

end Sys2Proof.Machine
end

