-- ==== Sys2Proof/Machine/Step.lean ====
section
/-! DEFINITION. One step of the machine (00_scope.md R11). -/

namespace Sys2Proof.Machine

open Sys2Proof

/-- One step. A faulted run is stuck (60_exceptions.md R356); else the next scheduled step is performed. -/
def step (s : State) : Host.Outcome State Fault Refusal :=
  match stuckFault s with
  | some f => .fault f
  | none => runNext s

/-- The transaction of a table word scheduled as the very next step (notes/assumptions/10.md). -/
def State.withFetchWord (s : State) (nbits w : Nat) : State :=
  { s with input := .transaction (tableBytes nbits w) :: s.input }

end Sys2Proof.Machine
end

