-- ==== Sys2Proof/Safety.lean ====
section
/-! DEFINITION. The vocabulary of the statements: when a run is live, what a transaction leaves besides its effect, the
invariants of the machine, and runs of scheduled steps. -/

namespace Sys2Proof.Machine

open Sys2Proof

/-- No host duty has been broken and the chip is powered (60_exceptions.md R356, 10_state.md R24). -/
abbrev Live (s : State) : Prop :=
  s.faults = [] ∧ s.powered = true

/-- What every powered transaction that returns `n` free bytes adds to its effect `t` on state `s`: the reply begins with the
status from before the effect (40_bus_transactions.md R141), the host's index advances (10_state.md R21). -/
def after (s : State) (n : Nat) (t : State) : State :=
  { t with
    reply := statusBytes s ++ freeBytes s.drawIndex n
    drawIndex := s.drawIndex + n
    txnIndex := s.txnIndex + 1 }

/-- What every powered transaction that returns the read bytes `bs` adds to its effect `t` on state `s`. -/
def afterRead (s : State) (bs : List Byte) (t : State) : State :=
  { t with reply := statusBytes s ++ bs, txnIndex := s.txnIndex + 1 }

/-- The host keeps the burst bounds of 20_memory.md R79 for `n` data bytes at `a`. -/
abbrev BurstFits (a : Byte) (n : Nat) (s : State) : Prop :=
  (∀ m ∈ s.cfg.maxBurst, n ≤ m) ∧ (a = 0xFF#8 ∨ a.toNat + n ≤ 0xFF)

/-- POWERED, PENDING and CSMA_ACTIVE agree with RADIO_STATE (10_state.md R23, R24, R25). -/
abbrev PowerInv (s : State) : Prop :=
  (s.powered = false ↔ s.radio = .shutdown) ∧ (s.pending ≠ .none → s.radio = .locking) ∧
    (s.csma.active = true → s.radio = .ready)

/-- Neither FIFO holds more than `FIFO_CAP` bytes (10_state.md R28). -/
abbrev FifoInv (s : State) : Prop :=
  s.txFifo.length ≤ s.cfg.fifoCap ∧ s.rxFifo.length ≤ s.cfg.fifoCap

/-- The RW registers below the GPIO registers (10_state.md R30). -/
def plainRwRegs : List Reg :=
  [.pktCfg0, .preambleLen, .syncLen, .sync3, .sync2, .sync1, .sync0, .pktLen1, .pktLen0, .txDestAddr, .txCtrl,
    .localAddr, .bcastAddr, .filterCfg, .csmaCfg, .csmaBe, .csmaMaxRetry, .rssiThresh, .boUnit1, .boUnit0,
    .senseWindow, .sleepCfg, .txFifoThr, .rxFifoThr]

/-- A value that a write can leave in an RW register: reserved bits 0 and legal (10_state.md R34). -/
def storable (fifoCap : Nat) (r : Reg) (v : Byte) : Bool :=
  (v &&& regMask r) == v && regLegal fifoCap r v

/-- Every RW register holds a legal value with its reserved bits 0 (10_state.md R34); there are `NUM_GPIO` GPIO registers;
`EVENT_FLAGS1[7]` reads 0 (R52); the result registers hold a code of R50 and R51. -/
abbrev RegsInv (s : State) : Prop :=
  plainRwRegs.all (fun r => storable s.cfg.fifoCap r (regGet s.regs r)) = true ∧
    s.regs.gpioCfg.all (fun v => storable s.cfg.fifoCap (.gpioCfg 0) v) = true ∧
    s.regs.gpioCfg.length = s.cfg.numGpio ∧ s.regs.eventFlags1.getLsbD 7 = false ∧
    s.regs.rxResult.toNat ≤ 5 ∧ s.regs.csmaResult.toNat ≤ 4

/-- The frame to send has a length field that holds its length (41_state_machine.md R181). -/
abbrev LengthFits (s : State) : Prop :=
  pktLen s.regs + overhead (frameCfgOf s) ≤ lenMax (frameCfgOf s)

/-- During a CSMA run: samples or ticks are left, the attempts are within `CSMA_MAX_RETRY` (43_csma_engine.md R282, R285,
R287, R295), and the frame's length has been checked (R280). -/
abbrev CsmaInv (s : State) : Prop :=
  s.csma.active = true →
    (s.csma.phase = .sense → 1 ≤ s.csma.samplesLeft.toNat ∧ s.csma.samplesLeft.toNat ≤ s.regs.senseWindow.toNat) ∧
      (s.csma.phase = .backoff → 1 ≤ s.csma.ticksLeft ∧ s.csma.ticksLeft ≤ (2 ^ 15 - 1) * 65535) ∧
      1 ≤ s.regs.csmaAttempts.toNat ∧ s.regs.csmaAttempts.toNat ≤ s.regs.csmaMaxRetry.toNat ∧
      s.regs.csmaResult = 0#8 ∧ LengthFits s

/-- During a transmission: the position is inside the frame, which has a length field (42_packet_engine.md R229, R230, R233),
and `TX_CRC_ACC` is a `W`-bit value (10_state.md R26). -/
abbrev TxInv (s : State) : Prop :=
  s.radio = .tx →
    s.tx.pos < txN s ∧ LengthFits s ∧ s.tx.crcAcc.toNat < 2 ^ crcWidth (frameCfgOf s).crcMode

/-- During a reception: the filter has an address field to look at (41_state_machine.md R180), and the phase is that of a field
not yet complete (42_packet_engine.md R238 to R247). -/
abbrev RxInv (s : State) : Prop :=
  s.radio = .rx →
    ((frameCfgOf s).filtEn = true → (frameCfgOf s).addrEn = true) ∧
      (s.rx.phase = .len → s.rx.lenGot.toNat < lenBytesCount (frameCfgOf s)) ∧
      (s.rx.phase = .addr → (frameCfgOf s).addrEn = true) ∧ (s.rx.phase = .ctrl → (frameCfgOf s).ctrlEn = true) ∧
      (s.rx.phase = .payload → 1 ≤ s.rx.payloadLeft.toNat) ∧
      (s.rx.phase = .crc → s.rx.crcGot.toNat < crcCount (frameCfgOf s)) ∧
      (s.rx.phase ≠ .hunt → s.rx.phase ≠ .crc → s.rx.crcGot = 0) ∧
      (s.rx.phase ≠ .hunt →
        s.rx.crcAcc.toNat < 2 ^ crcWidth (frameCfgOf s).crcMode ∧
          s.rx.crcRecv.toNat < 2 ^ crcWidth (frameCfgOf s).crcMode)

/-- The machine's invariant: legal parameters and everything above. -/
abbrev MachineInv (s : State) : Prop :=
  s.cfg.legal = true ∧ PowerInv s ∧ FifoInv s ∧ RegsInv s ∧ CsmaInv s ∧ TxInv s ∧ RxInv s

/-- The registers that are locked while BUSY, as one list (10_state.md R33). -/
def lockedRegs (g : Regs) : List Byte :=
  [g.pktCfg0, g.preambleLen, g.syncLen, g.sync3, g.sync2, g.sync1, g.sync0, g.pktLen1, g.pktLen0, g.txDestAddr,
    g.txCtrl, g.localAddr, g.bcastAddr, g.filterCfg, g.csmaCfg, g.csmaBe, g.csmaMaxRetry, g.rssiThresh, g.boUnit1,
    g.boUnit0, g.senseWindow]

/-- A sequence of engine and environment steps each of which is enabled when it is taken; `none` where one is not. -/
def runEnabled : List Input → State → Option State
  | [], s => some s
  | e :: es, s => if inputEnabled e s then runEnabled es (inputEffect e s) else none

/-- A step of a permanently busy channel (43_csma_engine.md R292): a sample above the threshold, or a tick. -/
def busyChannelInput (thresh : Byte) : Input → Bool
  | .csmaSample v _ => decide (thresh.toNat < v.toNat)
  | .tick => true
  | _ => false

/-- Whether a step is an RSSI sample of the CSMA engine. -/
def isCsmaSample : Input → Bool
  | .csmaSample _ _ => true
  | _ => false

/-- One bit of a byte string flipped: bit `i % 8` of byte `i / 8`. -/
def flipBit (i : Nat) (bs : List Byte) : List Byte :=
  bs.modify (i / 8) (fun b => b ^^^ ((1 : Byte) <<< (i % 8)))

/-- Whether a transaction reads `ERR_FLAGS` (10_state.md R52): a read whose addresses cover 0x2C. -/
def readsErrFlags : Instr → Bool
  | .read a _ => a == 0x2C#8
  | .burstRead a d => a != 0xFF#8 && decide (a.toNat ≤ 0x2C) && decide (0x2C < a.toNat + d.length)
  | _ => false

/-- A cell of the legality table of 41_state_machine.md R171. -/
inductive Cell where
  | refused
  | nop
  | reset
  | toLocking
  | toStandby
  | toSleep
  | startTx
  | startRx
  | pendTx
  | pendRx
  | endCsma
  | abortTx
  | abortRx
  | flushTx
  | flushRx
  deriving DecidableEq, Repr

/-- A row of the table of 41_state_machine.md R171 in the column of a state; LOCKING's SABORT cell is "to STANDBY". `none` for
instructions that are no strobe and for SHUTDOWN, which the table leaves out. -/
def legalityCell (i : Instr) (s : State) : Option Cell :=
  let row (standby sleep idle csma locking rx tx : Cell) : Option Cell :=
    match s.radio with
    | .shutdown => none
    | .standby => some standby
    | .sleep => some sleep
    | .ready => some (if s.csma.active then csma else idle)
    | .locking => some locking
    | .rx => some rx
    | .tx => some tx
  match i with
  | .pwrup _ => row .refused .refused .refused .refused .refused .refused .refused
  | .sres _ => row .reset .reset .reset .reset .reset .reset .reset
  | .ready _ => row .toLocking .toLocking .nop .refused .nop .refused .refused
  | .standby _ => row .nop .refused .toStandby .refused .refused .refused .refused
  | .sleep _ => row .refused .nop .toSleep .refused .refused .refused .refused
  | .tx _ => row .refused .refused .startTx .refused .pendTx .refused .refused
  | .rx _ => row .refused .refused .startRx .refused .pendRx .refused .refused
  | .sabort _ => row .nop .nop .nop .endCsma .toStandby .abortRx .abortTx
  | .flushtx _ => row .flushTx .flushTx .flushTx .refused .flushTx .flushTx .refused
  | .flushrx _ => row .flushRx .flushRx .flushRx .flushRx .flushRx .flushRx .flushRx
  | .reservedStrobe _ _ => row .refused .refused .refused .refused .refused .refused .refused
  | _ => none

/-- What a cell of the table does (41_state_machine.md R170 to R184). -/
def cellEffect (c : Cell) (s : State) : State :=
  match c with
  | .refused => { s with err := { s.err with cmdErr := true } }
  | .nop => s
  | .reset => { resetAll s with radio := .standby }
  | .toLocking => { s with radio := .locking, pending := .none }
  | .toStandby => { s with radio := .standby, pending := .none }
  | .toSleep =>
    { s with
      radio := .sleep
      txFifo := if fifoRetain s.regs then s.txFifo else []
      rxFifo := if fifoRetain s.regs then s.rxFifo else [] }
  | .startTx => txStrobeInReady s
  | .startRx => rxStrobeInReady s
  | .pendTx => { s with pending := .tx }
  | .pendRx => { s with pending := .rx }
  | .endCsma => { s with csma := { s.csma with active := false }, regs := { s.regs with csmaResult := 4#8 } }
  | .abortTx => signal .readyReached { s with radio := .ready, txFifo := [] }
  | .abortRx =>
    signal .readyReached { s with radio := .ready, rxFifo := if s.rx.phase = .hunt then s.rxFifo else [] }
  | .flushTx => { s with txFifo := [] }
  | .flushRx => { s with rxFifo := [] }

/-- The edges of the radio state machine that one step may take (41_state_machine.md R189), no change included. A request
pending at lock passes through READY within its step (R187). -/
def radioEdge : RadioState → RadioState → Bool
  | .shutdown, .shutdown => true
  | .shutdown, .standby => true
  | .standby, .standby => true
  | .standby, .locking => true
  | .sleep, .sleep => true
  | .sleep, .locking => true
  | .sleep, .standby => true
  | .locking, .locking => true
  | .locking, .ready => true
  | .locking, .standby => true
  | .locking, .tx => true
  | .locking, .rx => true
  | .ready, .ready => true
  | .ready, .standby => true
  | .ready, .sleep => true
  | .ready, .tx => true
  | .ready, .rx => true
  | .tx, .tx => true
  | .tx, .ready => true
  | .tx, .standby => true
  | .rx, .rx => true
  | .rx, .ready => true
  | .rx, .standby => true
  | _, _ => false

end Sys2Proof.Machine
end

