-- ==== Sys2Proof/Certificates/Slice0/Obligations.lean ====
section
/-! DEFINITION. The statements about S2LP-PKT that the provers settle. Each docstring says which rule of spec/ it formalises.
`after s n t` is the state `t` with the bookkeeping of a transaction that began in `s` and returned `n` free bytes. -/

open Sys2Proof Sys2Proof.Machine

/-! ## Encoding -/

/-- Under every strobe code map that gives no code to two strobes (notes/assumptions/7.md), decoding the bytes of any
well-formed instruction gives it back (30_encoding.md R102 to R106, R112, R113; 00_scope.md R7 for the map). -/
def Obligations.DecodeOfEncodeIsIdentity : Prop :=
  ∀ (m : StrobeCode) (i : Instr), m.distinct = true → i.wellFormed m = true → decode m (encode m i) = .ok i

/-- Every byte string has at most one reading, and it is a well-formed one (30_encoding.md R102 to R106). -/
def Obligations.EncodeOfDecodeIsIdentity : Prop :=
  ∀ (m : StrobeCode) (bytes : Bytes) (i : Instr),
    decode m bytes = .ok i → encode m i = bytes ∧ i.wellFormed m = true

/-- Words written out from 30_encoding.md R104 to R106 and 95_test_vectors.md, one or more for each family, and the ten default
strobe codes of R112. -/
def Obligations.SpecWordsDecode : Prop :=
  let m := State.reset.cfg.strobeCode
  decode m [0x00#8, 0x00#8] = .ok (.poll .write 0x00#8) ∧
    decode m [0x00#8, 0x0F#8, 0x35#8] = .ok (.write 0x0F#8 0x35#8) ∧
    decode m [0x00#8, 0x0E#8, 0x03#8, 0x53#8, 0x03#8] = .ok (.burstWrite 0x0E#8 [0x03#8, 0x53#8, 0x03#8]) ∧
    decode m [0x00#8, 0xFF#8, 0xDE#8] = .ok (.fifoWrite [0xDE#8]) ∧
    decode m [0x01#8, 0x2C#8, 0x00#8] = .ok (.read 0x2C#8 0x00#8) ∧
    decode m [0x01#8, 0x2A#8, 0x00#8, 0x00#8, 0x00#8] = .ok (.burstRead 0x2A#8 [0x00#8, 0x00#8, 0x00#8]) ∧
    decode m [0x01#8, 0xFF#8, 0x00#8] = .ok (.fifoRead [0x00#8]) ∧
    decode m [0x80#8, 0x7E#8] = .ok (.pwrup []) ∧ decode m [0x80#8, 0x65#8] = .ok (.reservedStrobe 0x65#8 []) ∧
    decode m [0x02#8, 0x00#8] = .ok (.reservedHeader 0x02#8 0x00#8 []) ∧
    ([0x60#8, 0x61#8, 0x62#8, 0x63#8, 0x64#8, 0x67#8, 0x70#8, 0x71#8, 0x72#8, 0x7E#8] : List Byte) =
      [m.tx, m.rx, m.ready, m.standby, m.sleep, m.sabort, m.sres, m.flushrx, m.flushtx, m.pwrup]

/-! ## The step -/

/-- A step whose next input is a transaction takes it off the schedule and runs the instruction decoded under the chip's codes
(00_scope.md R11, 40_bus_transactions.md R140). -/
def Obligations.StepRunsTheDecodedTransaction : Prop :=
  ∀ (s : State) (bytes : Bytes) (rest : List Input) (i : Instr),
    s.faults = [] → s.input = .transaction bytes :: rest → decode s.cfg.strobeCode bytes = .ok i →
      step s = exec i { s with input := rest }

/-- A step whose next input is an engine or environment step performs it where it is enabled and does nothing where it is not
(00_scope.md R11; the second half is the model's choice, notes/assumptions/3.md). Fewer than two bytes are no transaction and
change nothing (30_encoding.md R103). With no input the block waits (notes/assumptions/2.md). -/
def Obligations.StepPerformsOtherInputs : Prop :=
  (∀ (s : State) (e : Input) (rest : List Input),
    s.faults = [] → s.input = e :: rest → (∀ bytes, e ≠ .transaction bytes) →
      step s =
        .next (if inputEnabled e s then inputEffect e { s with input := rest } else { s with input := rest })) ∧
    (∀ (s : State) (bytes : Bytes) (rest : List Input),
      s.faults = [] → s.input = .transaction bytes :: rest → bytes.length < 2 →
        step s = .next { s with input := rest }) ∧
    ∀ s : State, s.faults = [] → s.input = [] → step s = .next s

/-- "A model treats a faulted run as stuck" (60_exceptions.md R356): no step and no instruction goes on. -/
def Obligations.FaultedRunIsStuck : Prop :=
  ∀ (s : State) (info : HostFault) (index : Nat) (more : List (HostFault × Nat)),
    s.faults = (info, index) :: more →
      step s = .fault (.hostFaulted info index) ∧ ∀ i : Instr, exec i s = .fault (.hostFaulted info index)

/-! ## Bus transactions -/

/-- 40_bus_transactions.md R148: a write or read with no data byte, at any address, returns the snapshot and changes nothing.
(The host's transaction index advances, 10_state.md R21.) The snapshot's fields are those of 10_state.md R29, with the codes of
R22 and R23; the status of an unpowered chip is 0. -/
def Obligations.PollReturnsTheSnapshot : Prop :=
  (∀ (m : StrobeCode) (a : Byte),
    decode m [0x00#8, a] = .ok (.poll .write a) ∧ decode m [0x01#8, a] = .ok (.poll .read a)) ∧
    (∀ (s : State) (a : Byte) (form : PollForm), Live s →
      exec (.poll form a) s =
        .next
          { s with
            reply := [(statusWord s).extractLsb' 8 8, (statusWord s).extractLsb' 0 8]
            txnIndex := s.txnIndex + 1 }) ∧
    (∀ s : State, s.powered = true →
      (statusWord s).getLsbD 15 = s.err.cfgErr ∧ (statusWord s).getLsbD 14 = s.err.cmdErr ∧
        (statusWord s).getLsbD 13 = s.err.lockErr ∧ (statusWord s).getLsbD 12 = s.err.rxOverrun ∧
        (statusWord s).getLsbD 11 = s.err.txUnderflow ∧ (statusWord s).getLsbD 10 = s.csma.active ∧
        (statusWord s).extractLsb' 8 2 =
          (match s.pending with
          | .none => 0#2
          | .tx => 1#2
          | .rx => 2#2) ∧
        (statusWord s).getLsbD 7 = decide (s.txFifo.length = s.cfg.fifoCap) ∧
        (statusWord s).getLsbD 6 = decide (s.txFifo = []) ∧
        (statusWord s).getLsbD 5 = decide (s.rxFifo.length = s.cfg.fifoCap) ∧
        (statusWord s).getLsbD 4 = decide (s.rxFifo = []) ∧
        (statusWord s).getLsbD 3 = decide (s.radio = .rx ∧ s.rx.phase ≠ .hunt) ∧
        (statusWord s).extractLsb' 0 3 =
          (match s.radio with
          | .shutdown => 0#3
          | .standby => 1#3
          | .sleep => 2#3
          | .ready => 3#3
          | .locking => 4#3
          | .rx => 5#3
          | .tx => 6#3)) ∧
    ∀ s : State, s.powered = false → statusWord s = 0#16

/-- 40_bus_transactions.md R149: in SHUTDOWN every transaction but PWRUP returns 0x00 0x00 and free bytes, and does nothing. The
free bytes are the next ones of the machine's, each its own (00_scope.md R10, notes/assumptions/4.md). -/
def Obligations.UnpoweredTransactionsDoNothing : Prop :=
  (∀ (s : State) (i : Instr), s.faults = [] → s.powered = false → (∀ tail, i ≠ .pwrup tail) →
    exec i s =
      .next
        { s with
          reply := [0x00#8, 0x00#8] ++ freeBytes s.drawIndex ((encode s.cfg.strobeCode i).length - 2)
          drawIndex := s.drawIndex + ((encode s.cfg.strobeCode i).length - 2)
          txnIndex := s.txnIndex + 1 }) ∧
    ∀ m n : Nat, freeBytes m n = (List.range n).map (fun k => Config.freeByte (m + k))

/-- WRITE of a value whose masked bits are legal to a mapped RW register that is not locked (40_bus_transactions.md R142, R144):
the masked value is stored, every other register keeps its value, and CFG_ERR is raised exactly by the rebinding of an enabled
pin (10_state.md R55). Nothing else changes. The RW registers are the mapped ones up to 0x1F (10_state.md R30), and `MASK` is
written out by address (R142). -/
def Obligations.WriteStoresTheMaskedValue : Prop :=
  (∀ (s : State) (a d : Byte) (r : Reg),
    Live s → a ≠ 0xFF#8 → BurstFits a 1 s → regAt s.cfg.numGpio a = some r → regAccess r = .rw →
      ¬ (a.toNat ≤ 0x14 ∧ busy s = true) → regLegal s.cfg.fifoCap r (d &&& regMask r) = true →
        exec (.write a d) s =
          .next (after s 1
            { s with
              regs := regSet s.regs r (d &&& regMask r)
              err := { s.err with cfgErr := s.err.cfgErr || rebinds r (d &&& regMask r) s } })) ∧
    (∀ (s : State) (r : Reg) (v : Byte),
      rebinds r v s = true ↔
        ∃ n, r = .gpioCfg n ∧ (s.regs.gpioCfg.getD n 0x00#8).getLsbD 0 = true ∧ v.getLsbD 0 = true ∧
          v.extractLsb' 3 5 ≠ (s.regs.gpioCfg.getD n 0x00#8).extractLsb' 3 5) ∧
    (∀ (n : Nat) (a : Byte) (r : Reg), regAt n a = some r →
      (regAccess r = .rw ↔ a.toNat ≤ 0x1F) ∧ (regAccess r = .rc ↔ 0x2A ≤ a.toNat)) ∧
    ∀ (n : Nat) (a : Byte) (r : Reg), regAt n a = some r → a.toNat ≤ 0x1F →
      regMask r =
        if a = 0x00#8 then 0x3F#8
        else if a = 0x02#8 then 0x07#8
        else if a = 0x0D#8 ∨ a = 0x0E#8 then 0x03#8
        else if a = 0x15#8 then 0x01#8
        else if 0x18 ≤ a.toNat then 0xFB#8
        else 0xFF#8

/-- A register that a write has reached reads back as the masked value, and every other mapped register as before
(00_scope.md R10, 40_bus_transactions.md R142, R143). -/
def Obligations.WrittenRegisterReadsBack : Prop :=
  ∀ (g : Regs) (r q : Reg) (v : Byte),
    regAccess r = .rw → (∀ n, r = .gpioCfg n → n < g.gpioCfg.length) →
      regGet (regSet g r v) r = v ∧ (q ≠ r → regGet (regSet g r v) q = regGet g q)

/-- 10_state.md R33: while BUSY a write to 0x00 to 0x14 is rejected with CFG_ERR and changes nothing else; a legal write to
0x15 to 0x1F is stored although BUSY holds. BUSY is LOCKING, RX, TX or a CSMA run. -/
def Obligations.BusyLockRejectsConfigurationWrites : Prop :=
  (∀ (s : State) (a d : Byte), Live s → busy s = true → BurstFits a 1 s →
    (a.toNat ≤ 0x14 → exec (.write a d) s = .next (after s 1 { s with err := { s.err with cfgErr := true } })) ∧
      ∀ r : Reg, 0x15 ≤ a.toNat → a.toNat ≤ 0x1F → regAt s.cfg.numGpio a = some r →
        regLegal s.cfg.fifoCap r (d &&& regMask r) = true →
          ∃ t, exec (.write a d) s = .next t ∧ t.regs = regSet s.regs r (d &&& regMask r)) ∧
    ∀ s : State,
      busy s = true ↔ s.radio = .locking ∨ s.radio = .rx ∨ s.radio = .tx ∨ s.csma.active = true

/-- 10_state.md R34: a write whose masked value is not legal is rejected whole with CFG_ERR. The legality conditions are written
out as 40_bus_transactions.md R142 collects them; every value of every other register is legal. -/
def Obligations.IllegalWriteIsRejectedWhole : Prop :=
  (∀ (s : State) (a d : Byte) (r : Reg),
    Live s → a ≠ 0xFF#8 → BurstFits a 1 s → regAt s.cfg.numGpio a = some r → regAccess r = .rw →
      regLegal s.cfg.fifoCap r (d &&& regMask r) = false →
        exec (.write a d) s = .next (after s 1 { s with err := { s.err with cfgErr := true } })) ∧
    ∀ (cap : Nat) (v : Byte) (n : Nat),
      (regLegal cap .pktCfg0 v = true ↔ v.toNat % 8 ≤ 5) ∧
        (regLegal cap .preambleLen v = true ↔ 1 ≤ v.toNat) ∧
        (regLegal cap .syncLen v = true ↔ 1 ≤ v.toNat % 8 ∧ v.toNat % 8 ≤ 4) ∧
        (regLegal cap .csmaBe v = true ↔ v.toNat % 16 ≤ v.toNat / 16) ∧
        (regLegal cap .csmaMaxRetry v = true ↔ 1 ≤ v.toNat) ∧ (regLegal cap .senseWindow v = true ↔ 1 ≤ v.toNat) ∧
        (regLegal cap .txFifoThr v = true ↔ v.toNat < cap) ∧
        (regLegal cap .rxFifoThr v = true ↔ 1 ≤ v.toNat ∧ v.toNat ≤ cap) ∧
        (regLegal cap (.gpioCfg n) v = true ↔ v.toNat % 2 = 0 ∨ 1 ≤ v.toNat / 8 ∧ v.toNat / 8 ≤ 15) ∧
        ∀ r : Reg,
          r ∉ [.pktCfg0, .preambleLen, .syncLen, .csmaBe, .csmaMaxRetry, .senseWindow, .txFifoThr, .rxFifoThr] →
            (∀ k, r ≠ .gpioCfg k) → regLegal cap r v = true

/-- 20_memory.md R74: a read of an unmapped address returns a free byte, the next one of the machine's; a write to an unmapped
address or to an RO or RC register is ignored with no flag. Unmapped are 0x18 + n with n >= NUM_GPIO and everything from 0x2D
to 0xFE (R80, 10_state.md R30). -/
def Obligations.UnmappedAndReadOnlyAccesses : Prop :=
  (∀ (n : Nat) (a : Byte),
    0x18 + n ≤ a.toNat ∧ a.toNat ≤ 0x1F ∨ 0x2D ≤ a.toNat ∧ a.toNat ≤ 0xFE → regAt n a = none) ∧
    ∀ (s : State) (a d : Byte), Live s → a ≠ 0xFF#8 → BurstFits a 1 s →
      (regAt s.cfg.numGpio a = none →
        exec (.read a d) s = .next (after s 1 s) ∧ exec (.write a d) s = .next (after s 1 s)) ∧
      ∀ r : Reg, regAt s.cfg.numGpio a = some r → regAccess r ≠ .rw → exec (.write a d) s = .next (after s 1 s)

/-- READ of a mapped register (40_bus_transactions.md R143, R146): the register's value is returned, and only a flag register is
changed by it. The dummy byte has no effect (30_encoding.md R105). The two counts are the FIFOs' lengths (10_state.md R46),
ERR_FLAGS is `STATUS[15:11]` (R52), every other register reads as stored; which register stands at which address is written
out from 10_state.md R30. -/
def Obligations.ReadReturnsTheRegister : Prop :=
  (∀ (s : State) (a dummy : Byte) (r : Reg),
    Live s → a ≠ 0xFF#8 → BurstFits a 1 s → regAt s.cfg.numGpio a = some r →
      exec (.read a dummy) s = .next (afterRead s [readReg r s] (clearOnRead r s)) ∧
        (regAccess r ≠ .rc → clearOnRead r s = s)) ∧
    (∀ (s : State) (r : Reg),
      readReg .txFifoCount s = BitVec.ofNat 8 s.txFifo.length ∧
        readReg .rxFifoCount s = BitVec.ofNat 8 s.rxFifo.length ∧
        readReg .errFlags s =
          (BitVec.ofBool s.err.cfgErr ++ BitVec.ofBool s.err.cmdErr ++ BitVec.ofBool s.err.lockErr ++
            BitVec.ofBool s.err.rxOverrun ++ BitVec.ofBool s.err.txUnderflow).zeroExtend 8 ∧
        (r ∉ [.txFifoCount, .rxFifoCount, .errFlags] → readReg r s = regGet s.regs r)) ∧
    ∀ (s : State) (n : Nat),
      (∀ av ∈
          [(0x00, s.regs.pktCfg0), (0x01, s.regs.preambleLen), (0x02, s.regs.syncLen), (0x03, s.regs.sync3),
            (0x04, s.regs.sync2), (0x05, s.regs.sync1), (0x06, s.regs.sync0), (0x07, s.regs.pktLen1),
            (0x08, s.regs.pktLen0), (0x09, s.regs.txDestAddr), (0x0A, s.regs.txCtrl), (0x0B, s.regs.localAddr),
            (0x0C, s.regs.bcastAddr), (0x0D, s.regs.filterCfg), (0x0E, s.regs.csmaCfg), (0x0F, s.regs.csmaBe),
            (0x10, s.regs.csmaMaxRetry), (0x11, s.regs.rssiThresh), (0x12, s.regs.boUnit1), (0x13, s.regs.boUnit0),
            (0x14, s.regs.senseWindow), (0x15, s.regs.sleepCfg), (0x16, s.regs.txFifoThr), (0x17, s.regs.rxFifoThr),
            (0x20, BitVec.ofNat 8 s.txFifo.length), (0x21, BitVec.ofNat 8 s.rxFifo.length), (0x22, s.regs.rssiLevel),
            (0x23, s.regs.rxLen1), (0x24, s.regs.rxLen0), (0x25, s.regs.rxAddr), (0x26, s.regs.rxCtrl),
            (0x27, s.regs.rxResult), (0x28, s.regs.csmaResult), (0x29, s.regs.csmaAttempts),
            (0x2A, s.regs.eventFlags1), (0x2B, s.regs.eventFlags0), (0x2C, readReg .errFlags s)],
        (regAt n (BitVec.ofNat 8 av.1)).map (readReg · s) = some av.2) ∧
        ∀ k, k < n → k < 8 →
          (regAt n (BitVec.ofNat 8 (0x18 + k))).map (readReg · s) = some (s.regs.gpioCfg.getD k 0x00#8)

/-- 10_state.md R52: a read of a flag register returns its flags and clears exactly those; `ERR_FLAGS` is `STATUS[15:11]`. -/
def Obligations.FlagReadClearsWhatItReturns : Prop :=
  ∀ (s : State) (dummy : Byte), Live s → BurstFits 0x2A#8 3 s →
    exec (.read 0x2A#8 dummy) s =
        .next (afterRead s [s.regs.eventFlags1] { s with regs := { s.regs with eventFlags1 := 0x00#8 } }) ∧
      exec (.read 0x2B#8 dummy) s =
        .next (afterRead s [s.regs.eventFlags0] { s with regs := { s.regs with eventFlags0 := 0x00#8 } }) ∧
      exec (.read 0x2C#8 dummy) s =
        .next (afterRead s [((statusWord s).extractLsb' 11 5).zeroExtend 8] { s with err := ErrFlags.clear })

/-- BURST_READ inside the burst bounds (40_bus_transactions.md R143, R146): byte i is the register at `a + i` as it stood before
the burst, or a free byte where the address is unmapped; the flag registers that the burst covers, and nothing else of the
registers, are cleared. -/
def Obligations.BurstReadReturnsEachRegister : Prop :=
  ∀ (s : State) (a : Byte) (dummies : Bytes), Live s → a ≠ 0xFF#8 → BurstFits a dummies.length s →
    ∃ (data : List Byte) (t : State),
      exec (.burstRead a dummies) s = .next t ∧ t.reply = statusBytes s ++ data ∧ data.length = dummies.length ∧
        (∀ i : Nat, i < dummies.length →
          (∀ r, regAt s.cfg.numGpio (a + BitVec.ofNat 8 i) = some r → data[i]? = some (readReg r s)) ∧
          (regAt s.cfg.numGpio (a + BitVec.ofNat 8 i) = none →
            ∃ m, s.drawIndex ≤ m ∧ m < t.drawIndex ∧ data[i]? = some (Config.freeByte m))) ∧
        t =
          { s with
            regs :=
              { s.regs with
                eventFlags1 :=
                  if a.toNat ≤ 0x2A ∧ 0x2A < a.toNat + dummies.length then 0x00#8 else s.regs.eventFlags1
                eventFlags0 :=
                  if a.toNat ≤ 0x2B ∧ 0x2B < a.toNat + dummies.length then 0x00#8 else s.regs.eventFlags0 }
            err := if a.toNat ≤ 0x2C ∧ 0x2C < a.toNat + dummies.length then ErrFlags.clear else s.err
            reply := t.reply
            drawIndex := t.drawIndex
            txnIndex := s.txnIndex + 1 }

/-- BURST_WRITE inside the burst bounds (40_bus_transactions.md R144): "each byte of a burst is checked and stored on its own".
Byte i acts on the register at `a + i` as a WRITE of its own would; registers the burst does not cover keep their values; CFG_ERR
is raised exactly when a byte on its own would raise it; nothing else changes. -/
def Obligations.BurstWriteActsOnEachAddress : Prop :=
  ∀ (s : State) (a : Byte) (data : Bytes), Live s → a ≠ 0xFF#8 → BurstFits a data.length s →
    ∃ (g : Regs) (e : Bool),
      exec (.burstWrite a data) s =
          .next (after s data.length { s with regs := g, err := { s.err with cfgErr := e } }) ∧
        (∀ (i : Nat) (d : Byte) (r : Reg),
          data[i]? = some d → regAt s.cfg.numGpio (a + BitVec.ofNat 8 i) = some r →
            regGet g r = regGet (writeReg (a + BitVec.ofNat 8 i) r d s).regs r) ∧
        (∀ r : Reg, (∀ i < data.length, regAt s.cfg.numGpio (a + BitVec.ofNat 8 i) ≠ some r) →
          regGet g r = regGet s.regs r) ∧
        (e = true ↔
          s.err.cfgErr = true ∨
            ∃ (i : Nat) (d : Byte) (r : Reg),
              data[i]? = some d ∧ regAt s.cfg.numGpio (a + BitVec.ofNat 8 i) = some r ∧
                (writeReg (a + BitVec.ofNat 8 i) r d s).err.cfgErr = true)

/-- FIFO_WRITE that fits (40_bus_transactions.md R145) appends its bytes to the TX FIFO in order; FIFO_READ that fits (R147)
returns the head bytes of the RX FIFO in order and removes them. Both in every powered state; nothing else changes. -/
def Obligations.FifoTransfersInOrder : Prop :=
  ∀ (s : State) (bytes : Bytes), Live s → BurstFits 0xFF#8 bytes.length s →
    (s.txFifo.length + bytes.length ≤ s.cfg.fifoCap →
      exec (.fifoWrite bytes) s = .next (after s bytes.length { s with txFifo := s.txFifo ++ bytes })) ∧
      (bytes.length ≤ s.rxFifo.length →
        exec (.fifoRead bytes) s =
          .next (afterRead s (s.rxFifo.take bytes.length) { s with rxFifo := s.rxFifo.drop bytes.length }))

/-- 20_memory.md R78 and 60_exceptions.md R356: the byte that finds the TX FIFO full, or the RX FIFO empty, records
HostFault(FIFO_BOUNDS) with the transaction's index; the bytes before it keep their effects and the rest are not performed. What
the transaction returns, and that its index advances, is the model's reading (notes/assumptions/8.md). -/
def Obligations.FifoBoundsViolationIsRecorded : Prop :=
  ∀ (s : State) (bytes : Bytes), Live s → BurstFits 0xFF#8 bytes.length s →
    (s.txFifo.length ≤ s.cfg.fifoCap → s.cfg.fifoCap < s.txFifo.length + bytes.length →
      exec (.fifoWrite bytes) s =
        .next (after s bytes.length
          { s with
            txFifo := s.txFifo ++ bytes.take (s.cfg.fifoCap - s.txFifo.length)
            faults := [(.fifoBounds, s.txnIndex)] })) ∧
      (s.rxFifo.length < bytes.length →
        exec (.fifoRead bytes) s =
          .next (afterRead s s.rxFifo { s with rxFifo := [], faults := [(.fifoBounds, s.txnIndex)] }))

/-- 20_memory.md R79: a transaction of more than MAX_BURST data bytes, at the FIFO port too, records HostFault(BURST_LENGTH),
else one that runs past 0xFE away from the port records HostFault(BURST_RANGE), before any byte. That it returns no byte is the
model's reading (notes/assumptions/8.md). -/
def Obligations.BurstBoundsViolationIsRecorded : Prop :=
  ∀ (s : State) (a : Byte) (bytes : Bytes) (info : HostFault), Live s → 2 ≤ bytes.length →
    (info = .burstLength ∧ (∃ m, s.cfg.maxBurst = some m ∧ m < bytes.length) ∨
      info = .burstRange ∧ (∀ m ∈ s.cfg.maxBurst, bytes.length ≤ m) ∧ a ≠ 0xFF#8 ∧
        0xFE < a.toNat + bytes.length - 1) →
      let t := { s with faults := [(info, s.txnIndex)], reply := [], txnIndex := s.txnIndex + 1 }
      exec (.burstWrite a bytes) s = .next t ∧ exec (.burstRead a bytes) s = .next t ∧
        (info = .burstLength → exec (.fifoWrite bytes) s = .next t ∧ exec (.fifoRead bytes) s = .next t)

/-! ## Strobes -/

/-- 41_state_machine.md R170 with ResetAll of 70_reset_and_hazards.md R391: PWRUP in SHUTDOWN powers up with every register,
flag and engine field at reset, in STANDBY; PWRUP while powered only sets CMD_ERR. The register values are written out by
address from 10_state.md R30. -/
def Obligations.PwrupPowersUpOnce : Prop :=
  (∀ tail : Bytes, decode StrobeCode.default (0x80#8 :: 0x7E#8 :: tail) = .ok (.pwrup tail)) ∧
    (∀ (s : State) (tail : Bytes), s.faults = [] →
      exec (.pwrup tail) s =
        .next (if s.powered = false then
          { s with
            powered := true, radio := .standby, pending := .none, regs := Regs.reset s.cfg.numGpio
            err := { cfgErr := false, cmdErr := false, lockErr := false, rxOverrun := false, txUnderflow := false }
            txFifo := [], rxFifo := []
            csma := { active := false, phase := .sense, samplesLeft := 0, busySeen := false, ticksLeft := 0 }
            tx := { pos := 0, crcAcc := 0 }
            rx :=
              { phase := .hunt, lenGot := 0, len := 0, payloadLeft := 0, crcGot := 0, crcRecv := 0, crcAcc := 0 }
            reply := [0x00#8, 0x00#8] ++ freeBytes s.drawIndex tail.length
            drawIndex := s.drawIndex + tail.length, txnIndex := s.txnIndex + 1 }
        else after s tail.length { s with err := { s.err with cmdErr := true } })) ∧
    (∀ n : Nat,
      (List.range 0x18).map (fun a => (regAt n (BitVec.ofNat 8 a)).map (regGet (Regs.reset n))) =
          ([0x13#8, 0x04#8, 0x04#8, 0x88#8, 0x88#8, 0x88#8, 0x88#8, 0x00#8, 0x00#8, 0x00#8, 0x00#8, 0x00#8, 0xFF#8, 0x00#8,
            0x00#8, 0x50#8, 0x04#8, 0x80#8, 0x00#8, 0x01#8, 0x01#8, 0x00#8, 0x10#8, 0x30#8] : List Byte).map some ∧
        (∀ (a : Byte) (r : Reg), 0x18 ≤ a.toNat → regAt n a = some r → regGet (Regs.reset n) r = 0x00#8) ∧
        (Regs.reset n).gpioCfg.length = n)

/-- 41_state_machine.md R172: SRES in every powered state puts every register, flag and engine field at reset and the state at
STANDBY; the output records and the parameters are kept, and no event is signalled. The register values are written out by
address from 10_state.md R30; the status after it is 0x0051 (70_reset_and_hazards.md R392). -/
def Obligations.SresResetsEverything : Prop :=
  (∀ tail : Bytes, decode StrobeCode.default (0x80#8 :: 0x70#8 :: tail) = .ok (.sres tail)) ∧
    (∀ (s : State) (tail : Bytes), Live s →
      ∃ t, exec (.sres tail) s = .next t ∧
        t =
          after s tail.length
            { s with
              radio := .standby, pending := .none, regs := Regs.reset s.cfg.numGpio
              err := { cfgErr := false, cmdErr := false, lockErr := false, rxOverrun := false, txUnderflow := false }
              txFifo := [], rxFifo := []
              csma := { active := false, phase := .sense, samplesLeft := 0, busySeen := false, ticksLeft := 0 }
              tx := { pos := 0, crcAcc := 0 }
              rx :=
                { phase := .hunt, lenGot := 0, len := 0, payloadLeft := 0, crcGot := 0, crcRecv := 0, crcAcc := 0 } } ∧
        (s.cfg.legal = true → statusWord t = 0x0051#16)) ∧
    (∀ n : Nat,
      (List.range 0x18).map (fun a => (regAt n (BitVec.ofNat 8 a)).map (regGet (Regs.reset n))) =
          ([0x13#8, 0x04#8, 0x04#8, 0x88#8, 0x88#8, 0x88#8, 0x88#8, 0x00#8, 0x00#8, 0x00#8, 0x00#8, 0x00#8, 0xFF#8, 0x00#8,
            0x00#8, 0x50#8, 0x04#8, 0x80#8, 0x00#8, 0x01#8, 0x01#8, 0x00#8, 0x10#8, 0x30#8] : List Byte).map some ∧
        (∀ (a : Byte) (r : Reg), 0x18 ≤ a.toNat → regAt n a = some r → regGet (Regs.reset n) r = 0x00#8) ∧
        (Regs.reset n).gpioCfg.length = n)

/-- 70_reset_and_hazards.md R390: the machine starts in SHUTDOWN, unpowered, with empty output records and index 0. Pin levels
by 10_state.md R57, computed as notes/assumptions/14.md says: low without power and while EN = 0; while EN = 1 a pin rests high
exactly if EDGE = 1, and its pulse goes to the opposite level. -/
def Obligations.PowerOnStateAndPinLevels : Prop :=
  State.reset.powered = false ∧ State.reset.radio = .shutdown ∧ State.reset.airOut = [] ∧ State.reset.pinTrace = [] ∧
    State.reset.faults = [] ∧ State.reset.txnIndex = 0 ∧
    (∀ (s : State) (n : Nat), s.powered = false → pinLevel n s = false) ∧
    ∀ (s : State) (n : Nat) (v : Byte), s.powered = true → s.regs.gpioCfg[n]? = some v →
      (v.getLsbD 0 = false → pinLevel n s = false) ∧
        (v.getLsbD 0 = true → pinLevel n s = v.getLsbD 1 ∧ pinActiveLevel n s = !v.getLsbD 1)

/-- 41_state_machine.md R173, in every powered state. -/
def Obligations.ReadyStrobe : Prop :=
  ∀ (s : State) (tail : Bytes), Live s →
    decode StrobeCode.default (0x80#8 :: 0x62#8 :: tail) = .ok (.ready tail) ∧
      exec (.ready tail) s =
        .next (after s tail.length
          (if s.radio = .standby ∨ s.radio = .sleep then { s with radio := .locking, pending := .none }
          else if s.radio = .ready ∧ s.csma.active = false ∨ s.radio = .locking then s
          else { s with err := { s.err with cmdErr := true } }))

/-- 41_state_machine.md R174, in every powered state. -/
def Obligations.StandbyStrobe : Prop :=
  ∀ (s : State) (tail : Bytes), Live s →
    decode StrobeCode.default (0x80#8 :: 0x63#8 :: tail) = .ok (.standby tail) ∧
      exec (.standby tail) s =
        .next (after s tail.length
          (if s.radio = .ready ∧ s.csma.active = false then { s with radio := .standby }
          else if s.radio = .standby then s
          else { s with err := { s.err with cmdErr := true } }))

/-- 41_state_machine.md R175, in every powered state: both FIFOs are emptied unless `FIFO_RETAIN` is set. -/
def Obligations.SleepStrobe : Prop :=
  ∀ (s : State) (tail : Bytes), Live s →
    decode StrobeCode.default (0x80#8 :: 0x64#8 :: tail) = .ok (.sleep tail) ∧
      exec (.sleep tail) s =
        .next (after s tail.length
          (if s.radio = .ready ∧ s.csma.active = false then
            (if s.regs.sleepCfg.getLsbD 0 then { s with radio := .sleep }
            else { s with radio := .sleep, txFifo := [], rxFifo := [] })
          else if s.radio = .sleep then s
          else { s with err := { s.err with cmdErr := true } }))

/-- 41_state_machine.md R180 with R184 and 42_packet_engine.md R236, in every powered state. -/
def Obligations.RxStrobe : Prop :=
  ∀ (s : State) (tail : Bytes), Live s →
    decode StrobeCode.default (0x80#8 :: 0x61#8 :: tail) = .ok (.rx tail) ∧
      exec (.rx tail) s =
        .next (after s tail.length
          (if s.radio = .ready ∧ s.csma.active = false then
            (if s.regs.filterCfg.getLsbD 0 = true ∧ s.regs.pktCfg0.getLsbD 3 = false then
              { s with err := { s.err with cfgErr := true } }
            else { s with radio := .rx, rx := { s.rx with phase := .hunt } })
          else if s.radio = .locking then { s with pending := .rx }
          else { s with err := { s.err with cmdErr := true } }))

/-- 41_state_machine.md R181 with R182, R184, 42_packet_engine.md R229 and 43_csma_engine.md R280, R282, in every powered state:
a frame too long for its length field is refused with CFG_ERR; with CSMA on a run starts in READY with its first window; else
the serializer starts. The lengths compared are written out from 10_state.md R32 and R37. -/
def Obligations.TxStrobe : Prop :=
  (∀ s : State,
    pktLen s.regs = 256 * s.regs.pktLen1.toNat + s.regs.pktLen0.toNat ∧
      overhead (frameCfgOf s) = (s.regs.pktCfg0.getLsbD 3).toNat + (s.regs.pktCfg0.getLsbD 4).toNat ∧
      lenMax (frameCfgOf s) = if s.regs.pktCfg0.getLsbD 5 then 65535 else 255) ∧
  ∀ (s : State) (tail : Bytes), Live s →
    decode StrobeCode.default (0x80#8 :: 0x60#8 :: tail) = .ok (.tx tail) ∧
      exec (.tx tail) s =
        .next (after s tail.length
          (if s.radio = .ready ∧ s.csma.active = false then
            (if lenMax (frameCfgOf s) < pktLen s.regs + overhead (frameCfgOf s) then
              { s with err := { s.err with cfgErr := true } }
            else if s.regs.csmaCfg.getLsbD 0 then
              { s with
                regs := { s.regs with csmaResult := 0#8, csmaAttempts := 1#8 }
                csma :=
                  { s.csma with
                    active := true
                    phase := .sense
                    samplesLeft := s.regs.senseWindow
                    busySeen := false } }
            else
              { s with
                radio := .tx
                tx :=
                  { pos := 0
                    crcAcc :=
                      if (frameCfgOf s).crcMode = .none then 0
                      else crcInitOf s.cfg.crcInit (frameCfgOf s).crcMode } })
          else if s.radio = .locking then { s with pending := .tx }
          else { s with err := { s.err with cmdErr := true } }))

/-- 41_state_machine.md R176 with 42_packet_engine.md R235 and 43_csma_engine.md R291, in every powered state: SABORT ends in
READY or STANDBY, and is a nop that stays in SLEEP there. After it ends a CSMA run the window and backoff fields "have no
meaning any more" (R291); that they keep their values is the model's reading (notes/assumptions/12.md). -/
def Obligations.SabortStrobe : Prop :=
  ∀ (s : State) (tail : Bytes), Live s →
    decode StrobeCode.default (0x80#8 :: 0x67#8 :: tail) = .ok (.sabort tail) ∧
      ∃ t, exec (.sabort tail) s = .next (after s tail.length t) ∧
        (s.radio = .tx → t = signal .readyReached { s with radio := .ready, txFifo := [] }) ∧
        (s.radio = .rx → s.rx.phase ≠ .hunt → t = signal .readyReached { s with radio := .ready, rxFifo := [] }) ∧
        (s.radio = .rx → s.rx.phase = .hunt → t = signal .readyReached { s with radio := .ready }) ∧
        (s.radio = .ready → s.csma.active = true →
          t = { s with csma := { s.csma with active := false }, regs := { s.regs with csmaResult := 4#8 } }) ∧
        (s.radio = .locking → t = { s with radio := .standby, pending := .none }) ∧
        (s.radio = .standby ∨ s.radio = .sleep ∨ s.radio = .ready ∧ s.csma.active = false → t = s)

/-- 41_state_machine.md R177 and R178, in every powered state: FLUSHTX empties the TX FIFO unless a frame is committed to it,
FLUSHRX empties the RX FIFO; nothing else changes. -/
def Obligations.FlushStrobes : Prop :=
  ∀ (s : State) (tail : Bytes), Live s →
    decode StrobeCode.default (0x80#8 :: 0x72#8 :: tail) = .ok (.flushtx tail) ∧
      exec (.flushtx tail) s =
        .next (after s tail.length
          (if s.radio = .tx ∨ s.csma.active = true then { s with err := { s.err with cmdErr := true } }
          else { s with txFifo := [] })) ∧
      decode StrobeCode.default (0x80#8 :: 0x71#8 :: tail) = .ok (.flushrx tail) ∧
      exec (.flushrx tail) s = .next (after s tail.length { s with rxFifo := [] })

/-- 41_state_machine.md R179 and 40_bus_transactions.md R150: a strobe code that 30_encoding.md R112 does not list, and a header
other than 0x00, 0x01 and 0x80, set CMD_ERR and change nothing else; the further bytes are answered with free bytes. -/
def Obligations.ReservedCodesSetCmdErr : Prop :=
  ∀ (s : State) (c : Byte) (tail : Bytes), Live s →
    (c.toNat ∉ [0x60, 0x61, 0x62, 0x63, 0x64, 0x67, 0x70, 0x71, 0x72, 0x7E] →
      decode StrobeCode.default (0x80#8 :: c :: tail) = .ok (.reservedStrobe c tail) ∧
        exec (.reservedStrobe c tail) s =
          .next (after s tail.length { s with err := { s.err with cmdErr := true } })) ∧
      ∀ h : Byte, h ≠ 0x00#8 → h ≠ 0x01#8 → h ≠ 0x80#8 →
        decode s.cfg.strobeCode (h :: c :: tail) = .ok (.reservedHeader h c tail) ∧
          exec (.reservedHeader h c tail) s =
            .next (after s tail.length { s with err := { s.err with cmdErr := true } })

/-- The legality table of 41_state_machine.md R171, cell by cell: in every powered state each strobe does what its cell says.
The SABORT cells are those of R176. After the one of a CSMA run the window and backoff fields "have no meaning any more"
(43_csma_engine.md R291); that they keep their values is the model's reading (notes/assumptions/12.md). -/
def Obligations.StrobeLegalityTable : Prop :=
  ∀ (s : State) (i : Instr) (c : Cell), Live s → PowerInv s → legalityCell i s = some c →
    exec i s = .next (after s ((encode s.cfg.strobeCode i).length - 2) (cellEffect c s))

/-! ## Autonomous transitions, events and pins -/

/-- 41_state_machine.md R186 and R187: a lock failure goes to STANDBY, drops the pending request, sets LOCK_ERR and signals
LOCK_ERROR; at lock success READY is reached and signalled, then the pending request is carried out as its strobe would be in
READY. -/
def Obligations.LockResults : Prop :=
  ∀ (s : State) (rest : List Input), s.faults = [] → s.radio = .locking →
    (s.input = .lockResult false :: rest →
      step s =
        .next (signal .lockError
          { s with
            radio := .standby, pending := .none, err := { s.err with lockErr := true }, input := rest })) ∧
      (s.input = .lockResult true :: rest →
        ∀ u : State, u = signal .readyReached { s with radio := .ready, pending := .none, input := rest } →
          (s.pending = .none → step s = .next u) ∧
            (s.pending = .tx → step s = .next (txStrobeInReady u)) ∧
            (s.pending = .rx → step s = .next (rxStrobeInReady u)))

/-- 44_event_routing.md R322 with R325: an event sets its flag bit and no other, and each pin bound to it, in increasing index,
pulses once; nothing else changes. The fifteen selectors are written out from R321. -/
def Obligations.EventSetsFlagAndPulsesBoundPins : Prop :=
  (∀ (e : Event) (s : State),
    (∀ j : Nat, j < 8 →
      (signal e s).regs.eventFlags0.getLsbD j = (s.regs.eventFlags0.getLsbD j || decide (eventSel e = j + 1)) ∧
      (signal e s).regs.eventFlags1.getLsbD j = (s.regs.eventFlags1.getLsbD j || decide (eventSel e = j + 9))) ∧
      (signal e s).pinTrace =
        s.pinTrace ++
          (List.range s.regs.gpioCfg.length).filter
            (fun n =>
              (s.regs.gpioCfg.getD n 0x00#8).getLsbD 0 &&
                ((s.regs.gpioCfg.getD n 0x00#8).extractLsb' 3 5).toNat == eventSel e) ∧
      signal e s =
        { s with
          regs :=
            { s.regs with
              eventFlags0 := (signal e s).regs.eventFlags0, eventFlags1 := (signal e s).regs.eventFlags1 }
          pinTrace := (signal e s).pinTrace }) ∧
    eventSel .rxDataReady = 1 ∧ eventSel .txDone = 2 ∧ eventSel .channelClear = 3 ∧ eventSel .channelBusy = 4 ∧
    eventSel .maxRetries = 5 ∧ eventSel .txFifoAlmostEmpty = 6 ∧ eventSel .rxFifoAlmostFull = 7 ∧
    eventSel .crcError = 8 ∧ eventSel .lengthMismatch = 9 ∧ eventSel .rxOverrun = 10 ∧ eventSel .rxFiltered = 11 ∧
    eventSel .txUnderflow = 12 ∧ eventSel .syncDetected = 13 ∧ eventSel .readyReached = 14 ∧ eventSel .lockError = 15

/-- 41_state_machine.md R188: a step that changes RADIO_STATE from another state to READY signals READY_REACHED. -/
def Obligations.EnteringReadyIsSignalled : Prop :=
  ∀ s t : State, step s = .next t → s.radio ≠ .ready → t.radio = .ready → t.regs.eventFlags1.getLsbD 5 = true

/-! ## TX serializer -/

/-- 42_packet_engine.md R225, R231 to R233: from the start of a transmission with the whole payload in the TX FIFO, the steps of
the serializer put exactly `Encode` of that payload into AIR_OUT, leave the FIFO's further bytes, and end in READY with TX_DONE
and READY_REACHED. The configuration the frame is built from is written out from R220 and 10_state.md R31, R35, R36 and R39, and
the frame's regions from R230. -/
def Obligations.SerializerEmitsTheEncodedFrame : Prop :=
  (∀ s : State, s.regs.pktCfg0.toNat % 8 ≤ 5 →
    frameCfgOf s =
        { crcMode :=
            match s.regs.pktCfg0.toNat % 8 with
            | 1 => .crc8
            | 2 => .crc16x8005
            | 3 => .crc16x1021
            | 4 => .crc24
            | 5 => .crc32
            | _ => .none
          addrEn := s.regs.pktCfg0.getLsbD 3
          ctrlEn := s.regs.pktCfg0.getLsbD 4
          lenWide := s.regs.pktCfg0.getLsbD 5
          preambleLen := s.regs.preambleLen.toNat
          syncLen := s.regs.syncLen.toNat % 8
          sync := s.regs.sync3 ++ s.regs.sync2 ++ s.regs.sync1 ++ s.regs.sync0
          filtEn := s.regs.filterCfg.getLsbD 0
          bcastEn := s.regs.filterCfg.getLsbD 1
          localAddr := s.regs.localAddr
          bcastAddr := s.regs.bcastAddr
          crcInit := s.cfg.crcInit } ∧
      lenBytesCount (frameCfgOf s) = (if s.regs.pktCfg0.getLsbD 5 then 2 else 1) ∧
      crcCount (frameCfgOf s) = [0, 1, 2, 2, 3, 4].getD (s.regs.pktCfg0.toNat % 8) 0 ∧
      txP0 s =
        s.regs.preambleLen.toNat + s.regs.syncLen.toNat % 8 + lenBytesCount (frameCfgOf s) +
          (s.regs.pktCfg0.getLsbD 3).toNat + (s.regs.pktCfg0.getLsbD 4).toNat ∧
      txC0 s = txP0 s + 256 * s.regs.pktLen1.toNat + s.regs.pktLen0.toNat ∧
      txN s = txC0 s + crcCount (frameCfgOf s)) ∧
  ∀ (s : State) (rest : List Input),
    s.faults = [] → s.radio = .tx → s.tx = { pos := 0, crcAcc := crcStart (frameCfgOf s) } → LengthFits s →
      pktLen s.regs ≤ s.txFifo.length → s.input = List.replicate (txN s) .txEmit ++ rest →
        ∃ frame t,
          encodeFrame (frameCfgOf s) (s.txFifo.take (pktLen s.regs)) s.regs.txDestAddr s.regs.txCtrl = some frame ∧
            frame.length = txN s ∧ Host.Core.run Sys2Proof.core (txN s) s = .next t ∧
            t.airOut = s.airOut ++ frame ∧ t.txFifo = s.txFifo.drop (pktLen s.regs) ∧ t.radio = .ready ∧
            t.regs.eventFlags0.getLsbD 1 = true ∧ t.regs.eventFlags1.getLsbD 5 = true ∧ t.err = s.err ∧
            t.rxFifo = s.rxFifo ∧ t.csma = s.csma ∧ t.input = rest

/-- 42_packet_engine.md R234: a payload byte due with the TX FIFO empty ends the frame: AIR_OUT does not grow, TX_UNDERFLOW is
set and signalled, READY is reached. -/
def Obligations.SerializerUnderflow : Prop :=
  ∀ (s : State) (rest : List Input),
    s.faults = [] → s.radio = .tx → txP0 s ≤ s.tx.pos → s.tx.pos < txC0 s → s.txFifo = [] →
      s.input = .txEmit :: rest →
        step s =
          .next (signal .readyReached
            { signal .txUnderflow { s with err := { s.err with txUnderflow := true }, input := rest } with
              radio := .ready })

/-- 42_packet_engine.md R231 with 44_event_routing.md R324: a payload byte that is not the frame's last is popped, enters the
CRC and is emitted; TX_FIFO_ALMOST_EMPTY is signalled exactly when the count falls to the threshold. -/
def Obligations.SerializerPayloadByte : Prop :=
  ∀ (s : State) (rest : List Input) (b : Byte) (more : List Byte),
    s.faults = [] → s.radio = .tx → txP0 s ≤ s.tx.pos → s.tx.pos < txC0 s → s.tx.pos + 1 ≠ txN s →
      s.txFifo = b :: more → s.input = .txEmit :: rest →
        ∀ u : State, u = { s with txFifo := more, input := rest } →
          step s =
            .next
              { (if more.length = s.regs.txFifoThr.toNat then signal .txFifoAlmostEmpty u else u) with
                airOut := s.airOut ++ [b]
                tx :=
                  { pos := s.tx.pos + 1
                    crcAcc :=
                      if (frameCfgOf s).crcMode = .none then s.tx.crcAcc
                      else crcStep (frameCfgOf s).crcMode s.tx.crcAcc b } }

/-! ## Packet engine -/

/-- The CRC field over a region, bit by bit, from the table of 42_packet_engine.md R222, the algorithm of R223 and the byte order
of R224; and the check values of R223 over "123456789" for the five CRC modes. -/
def Obligations.CrcFieldAndCheckValues : Prop :=
  (∀ (f : FrameCfg) (region : List Byte),
    let value (w : Nat) (poly init : BitVec 32) : BitVec 32 :=
      (region.flatMap (fun b => (List.range 8).reverse.map b.getLsbD)).foldl
        (fun acc bit =>
          if bit ^^ acc.getLsbD (w - 1) then (acc <<< 1 &&& BitVec.ofNat 32 (2 ^ w - 1)) ^^^ poly
          else acc <<< 1 &&& BitVec.ofNat 32 (2 ^ w - 1))
        init
    let field (w : Nat) (poly init : BitVec 32) : List Byte :=
      (List.range (w / 8)).reverse.map (fun k => (value w poly init).extractLsb' (8 * k) 8)
    trailer f region =
      match f.crcMode with
      | .none => []
      | .crc8 => field 8 0x07#32 (f.crcInit.w8.zeroExtend 32)
      | .crc16x8005 => field 16 0x8005#32 (f.crcInit.w16.zeroExtend 32)
      | .crc16x1021 => field 16 0x1021#32 (f.crcInit.w16.zeroExtend 32)
      | .crc24 => field 24 0x864CBF#32 (f.crcInit.w24.zeroExtend 32)
      | .crc32 => field 32 0x04C11DB7#32 f.crcInit.w32) ∧
  let msg : List Byte := [0x31#8, 0x32#8, 0x33#8, 0x34#8, 0x35#8, 0x36#8, 0x37#8, 0x38#8, 0x39#8]
  let value (m : CrcMode) : BitVec 32 := msg.foldl (crcStep m) (crcInitOf Config.default.crcInit m)
  value .crc8 = 0xFB#32 ∧ value .crc16x8005 = 0xAEE7#32 ∧ value .crc16x1021 = 0x29B1#32 ∧ value .crc24 = 0xE97980#32 ∧
    value .crc32 = 0x0376E6E7#32

/-- 42_packet_engine.md R226: the address filter accepts exactly when it is off, on a match with the local address, or on a match
with the broadcast value where that is enabled. The second clause says the same of the filter registers (10_state.md R39). -/
def Obligations.AddressFilter : Prop :=
  (∀ (f : FrameCfg) (a : Byte),
    accepts f a = true ↔ f.filtEn = false ∨ a = f.localAddr ∨ f.bcastEn = true ∧ a = f.bcastAddr) ∧
    ∀ (s : State) (a : Byte),
      accepts (frameCfgOf s) a = true ↔
        s.regs.filterCfg.getLsbD 0 = false ∨ a = s.regs.localAddr ∨
          s.regs.filterCfg.getLsbD 1 = true ∧ a = s.regs.bcastAddr

/-- The bytes of a frame, field by field, from 30_encoding.md R114 to R126 and 42_packet_engine.md R220, R221 and R225 (the
CRC field is `CrcFieldAndCheckValues`). 42_packet_engine.md R251 and R253: a receiver with the sender's format accepts every
encoded frame with its payload, address and control byte, unless its filter rejects the destination, and then the outcome is
`Filtered`. -/
def Obligations.FrameBytesAndTheirDecode : Prop :=
  (∀ (f : FrameCfg) (payload region : List Byte) (dest ctrl : Byte) (l : Nat),
    l = payload.length + f.addrEn.toNat + f.ctrlEn.toNat →
      region =
          (if f.lenWide then [BitVec.ofNat 8 (l / 256), BitVec.ofNat 8 (l % 256)] else [BitVec.ofNat 8 (l % 256)]) ++
            (if f.addrEn then [dest] else []) ++ (if f.ctrlEn then [ctrl] else []) ++ payload →
        encodeFrame f payload dest ctrl =
          if l ≤ (if f.lenWide then 65535 else 255) then
            some
              (List.replicate f.preambleLen 0xAA#8 ++
                ((List.range f.syncLen).reverse.map (fun k => f.sync.extractLsb' (8 * k) 8)) ++ region ++
                trailer f region)
          else none) ∧
  ∀ (f g : FrameCfg) (payload raw : List Byte) (dest ctrl : Byte),
    g.crcMode = f.crcMode → g.addrEn = f.addrEn → g.ctrlEn = f.ctrlEn → g.lenWide = f.lenWide →
      g.preambleLen = f.preambleLen → g.syncLen = f.syncLen → g.sync = f.sync → g.crcInit = f.crcInit →
        (g.filtEn = true → g.addrEn = true) → encodeFrame f payload dest ctrl = some raw →
          decodeFrame g raw =
            if g.filtEn = true ∧ accepts g dest = false then .filtered
            else .accept payload (if f.addrEn then some dest else none) (if f.ctrlEn then some ctrl else none)

/-- 42_packet_engine.md R252: with a CRC configured, one flipped bit of an encoded frame is never accepted: SyncNotFound in the
preamble and sync word, LengthMismatch in the length field, CrcError everywhere after it. -/
def Obligations.SingleBitFlipIsNeverAccepted : Prop :=
  ∀ (f : FrameCfg) (payload raw : List Byte) (dest ctrl : Byte) (i : Nat),
    f.crcMode ≠ .none → encodeFrame f payload dest ctrl = some raw → i < 8 * raw.length →
      decodeFrame f (flipBit i raw) =
        if i / 8 < f.preambleLen + f.syncLen then .syncNotFound
        else if i / 8 < f.preambleLen + f.syncLen + lenBytesCount f then .lengthMismatch
        else .crcError

/-! ## RX deserializer -/

/-- 42_packet_engine.md R250, first case: where `Decode` of the frame accepts and the RX FIFO has room, the streaming receiver
ends in READY with RX_RESULT OK after the body's last byte, with the payload in the RX FIFO, the length, address and control
bytes in their registers, and SYNC_DETECTED, RX_DATA_READY and READY_REACHED signalled; RX_FIFO_ALMOST_FULL is signalled exactly
when the payload brings the count up to the threshold (44_event_routing.md R324). -/
def Obligations.ReceiverAcceptsAsDecode : Prop :=
  ∀ (s : State) (body payload : List Byte) (addr ctrl : Option Byte) (rest : List Input),
    s.faults = [] → s.radio = .rx → s.rx.phase = .hunt →
      ((frameCfgOf s).filtEn = true → (frameCfgOf s).addrEn = true) →
      s.input = .syncDetected :: body.map .rxByte ++ rest →
      decodeFrame (frameCfgOf s) (preamble (frameCfgOf s) ++ syncWord (frameCfgOf s) ++ body) =
        .accept payload addr ctrl →
      s.rxFifo.length + payload.length ≤ s.cfg.fifoCap →
        ∃ t, Host.Core.run Sys2Proof.core (body.length + 1) s = .next t ∧ t.radio = .ready ∧ t.rx.phase = .hunt ∧
          t.regs.rxResult = 1#8 ∧ t.rxFifo = s.rxFifo ++ payload ∧
          (pair t.regs.rxLen1 t.regs.rxLen0).toNat = payload.length + overhead (frameCfgOf s) ∧
          t.regs.rxAddr = addr.getD s.regs.rxAddr ∧ t.regs.rxCtrl = ctrl.getD s.regs.rxCtrl ∧
          t.regs.eventFlags0.getLsbD 0 = true ∧ t.regs.eventFlags1.getLsbD 5 = true ∧
          t.regs.eventFlags1.getLsbD 4 = true ∧
          (s.rxFifo.length < s.regs.rxFifoThr.toNat →
            t.regs.eventFlags0.getLsbD 6 =
              (s.regs.eventFlags0.getLsbD 6 || decide (s.regs.rxFifoThr.toNat ≤ t.rxFifo.length))) ∧
          t.err = s.err ∧ t.txFifo = s.txFifo ∧ t.airOut = s.airOut ∧ t.csma = s.csma ∧ t.input = rest

/-- 42_packet_engine.md R250, second case: where `Decode` answers `CrcError` or `Filtered`, the receiver ends the frame with that
RX_RESULT after the body's last byte, with its event, the RX FIFO emptied, and goes on hunting in RX (R245, R248). -/
def Obligations.ReceiverRejectsAsDecode : Prop :=
  ∀ (s : State) (body : List Byte) (rest : List Input) (result : FrameResult),
    s.faults = [] → s.radio = .rx → s.rx.phase = .hunt →
      ((frameCfgOf s).filtEn = true → (frameCfgOf s).addrEn = true) →
      s.input = .syncDetected :: body.map .rxByte ++ rest →
      decodeFrame (frameCfgOf s) (preamble (frameCfgOf s) ++ syncWord (frameCfgOf s) ++ body) = result →
      result = .crcError ∨ result = .filtered →
      s.rxFifo.length + body.length ≤
          s.cfg.fifoCap + lenBytesCount (frameCfgOf s) + overhead (frameCfgOf s) + crcCount (frameCfgOf s) →
        ∃ t, Host.Core.run Sys2Proof.core (body.length + 1) s = .next t ∧ t.radio = .rx ∧ t.rx.phase = .hunt ∧
          t.rxFifo = [] ∧ t.err = s.err ∧ t.txFifo = s.txFifo ∧ t.airOut = s.airOut ∧ t.input = rest ∧
          (result = .crcError → t.regs.rxResult = 2#8 ∧ t.regs.eventFlags0.getLsbD 7 = true) ∧
          (result = .filtered → t.regs.rxResult = 5#8 ∧ t.regs.eventFlags1.getLsbD 2 = true)

/-- 42_packet_engine.md R250, the length cases: a length field below the overhead ends the frame with LENGTH_MISMATCH at its
last byte; a body shorter than its length field says is ended with LENGTH_MISMATCH by `CarrierLost` (R239, R244, R248). -/
def Obligations.ReceiverLengthMismatchAsDecode : Prop :=
  ∀ (s : State) (body : List Byte) (rest : List Input) (l : Nat) (steps : Nat),
    s.faults = [] → s.radio = .rx → s.rx.phase = .hunt →
      l = lenValue (body.take (lenBytesCount (frameCfgOf s))) →
      (lenBytesCount (frameCfgOf s) = body.length ∧ l < overhead (frameCfgOf s) ∧
          s.input = .syncDetected :: body.map .rxByte ++ rest ∧ steps = body.length + 1 ∨
        body.length < lenBytesCount (frameCfgOf s) + l + crcCount (frameCfgOf s) ∧
          (lenBytesCount (frameCfgOf s) ≤ body.length → overhead (frameCfgOf s) ≤ l) ∧
          s.rxFifo.length + body.length ≤ s.cfg.fifoCap ∧
          s.input = .syncDetected :: body.map .rxByte ++ .carrierLost :: rest ∧ steps = body.length + 2) →
        decodeFrame (frameCfgOf s) (preamble (frameCfgOf s) ++ syncWord (frameCfgOf s) ++ body) = .lengthMismatch ∧
          ∃ t, Host.Core.run Sys2Proof.core steps s = .next t ∧ t.radio = .rx ∧ t.rx.phase = .hunt ∧
            t.rxFifo = [] ∧ t.regs.rxResult = 3#8 ∧ t.regs.eventFlags1.getLsbD 0 = true ∧ t.err = s.err ∧
            t.input = rest

/-- The received bytes of 42_packet_engine.md R237, R242, R243 and 44_event_routing.md R324, one step each.
R237: SyncDetected in HUNT starts a frame and signals SYNC_DETECTED. R242: a payload byte that finds room enters the CRC and the
RX FIFO, with RX_FIFO_ALMOST_FULL exactly when the count comes to the threshold; the payload's last byte leads on to the CRC
field, or ends the frame where there is none (R238, R245). R243: a payload byte that finds the RX FIFO full ends the frame with
OVERRUN: the byte and the frame are lost, RX_OVERRUN is set and signalled, the RX FIFO is emptied, and the receiver hunts on in
RX. -/
def Obligations.ReceiverSyncAndPayloadBytes : Prop :=
  (∀ (s : State) (rest : List Input),
    s.faults = [] → s.radio = .rx → s.rx.phase = .hunt → s.input = .syncDetected :: rest →
      step s =
        .next (signal .syncDetected
          { s with
            input := rest
            rx :=
              { s.rx with
                phase := .len, lenGot := 0, len := 0, crcGot := 0, crcRecv := 0
                crcAcc :=
                  if (frameCfgOf s).crcMode = .none then 0
                  else crcInitOf s.cfg.crcInit (frameCfgOf s).crcMode } })) ∧
    (∀ (s u v : State) (b : Byte) (rest : List Input),
      s.faults = [] → s.radio = .rx → s.rx.phase = .payload → s.rxFifo.length ≠ s.cfg.fifoCap →
        s.input = .rxByte b :: rest →
        u = { s with rxFifo := s.rxFifo ++ [b], input := rest } →
        v =
          { (if s.rxFifo.length + 1 = s.regs.rxFifoThr.toNat then signal .rxFifoAlmostFull u else u) with
            rx :=
              { s.rx with
                payloadLeft := s.rx.payloadLeft - 1
                crcAcc :=
                  if (frameCfgOf s).crcMode = .none then s.rx.crcAcc
                  else crcStep (frameCfgOf s).crcMode s.rx.crcAcc b } } →
          (s.rx.payloadLeft ≠ 1 → step s = .next v) ∧
            (s.rx.payloadLeft = 1 → (frameCfgOf s).crcMode ≠ .none →
              step s = .next { v with rx := { v.rx with phase := .crc } }) ∧
            (s.rx.payloadLeft = 1 → (frameCfgOf s).crcMode = .none → step s = .next (frameEnd v))) ∧
    ∀ (s : State) (b : Byte) (rest : List Input),
      s.faults = [] → s.radio = .rx → s.rx.phase = .payload → s.rxFifo.length = s.cfg.fifoCap →
        s.input = .rxByte b :: rest →
          ∃ t, step s = .next t ∧ t.radio = .rx ∧ t.rx.phase = .hunt ∧ t.rxFifo = [] ∧ t.regs.rxResult = 4#8 ∧
            t.err = { s.err with rxOverrun := true } ∧
            t.regs.eventFlags1 = s.regs.eventFlags1 ||| 0x02#8 ∧ t.regs.eventFlags0 = s.regs.eventFlags0 ∧
            t.txFifo = s.txFifo ∧ t.airOut = s.airOut ∧ t.csma = s.csma ∧ t.pending = s.pending

/-! ## CSMA engine -/

/-- 43_csma_engine.md R283: a sample that does not end its window only updates RSSI_LEVEL, the busy mark and the count; the
sample is busy strictly above `RSSI_THRESH`. R249: in RX a sample only updates RSSI_LEVEL. -/
def Obligations.RssiSamples : Prop :=
  ∀ (s : State) (v : Byte) (k : Nat) (rest : List Input), s.faults = [] →
    (s.radio = .ready → s.csma.active = true → s.csma.phase = .sense → s.csma.samplesLeft ≠ 1 →
      s.input = .csmaSample v k :: rest →
        step s =
          .next
            { s with
              regs := { s.regs with rssiLevel := v }
              csma :=
                { s.csma with
                  busySeen := s.csma.busySeen || decide (s.regs.rssiThresh < v)
                  samplesLeft := s.csma.samplesLeft - 1 }
              input := rest }) ∧
      (s.radio = .rx → s.input = .rssiSample v :: rest →
        step s = .next { s with regs := { s.regs with rssiLevel := v }, input := rest })

/-- 43_csma_engine.md R283 to R286 and R289: what the last sample of a window does: an idle window hands off to the serializer, a
busy one ends the run with CHANNEL_BUSY (non-persistent) or MAX_RETRIES (the last attempt), or backs off. -/
def Obligations.SensingWindowEnd : Prop :=
  ∀ (s : State) (v : Byte) (k : Nat) (rest : List Input) (busySeen : Bool) (u : State),
    s.faults = [] → s.radio = .ready → s.csma.active = true → s.csma.phase = .sense → s.csma.samplesLeft = 1 →
      s.input = .csmaSample v k :: rest → busySeen = (s.csma.busySeen || decide (s.regs.rssiThresh < v)) →
      u =
        { s with
          regs := { s.regs with rssiLevel := v }
          csma := { s.csma with busySeen := busySeen, samplesLeft := 0 }
          input := rest } →
        ∃ t, step s = .next t ∧
          (busySeen = false →
            t =
              startTx (signal .channelClear
                { u with regs := { u.regs with csmaResult := 1#8 }, csma := { u.csma with active := false } })) ∧
          (busySeen = true → s.regs.csmaCfg.getLsbD 1 = false →
            t =
              signal .channelBusy
                { u with regs := { u.regs with csmaResult := 2#8 }, csma := { u.csma with active := false } }) ∧
          (busySeen = true → s.regs.csmaCfg.getLsbD 1 = true → s.regs.csmaAttempts = s.regs.csmaMaxRetry →
            t =
              signal .maxRetries
                { u with regs := { u.regs with csmaResult := 3#8 }, csma := { u.csma with active := false } }) ∧
          (busySeen = true → s.regs.csmaCfg.getLsbD 1 = true → s.regs.csmaAttempts ≠ s.regs.csmaMaxRetry →
            t = startBackoff k u)

/-- 43_csma_engine.md R285, R293: the backoff wait is a draw of `[0, 2^e - 1]` times BO_UNIT, `e` the lesser of the attempt number
and `MAX_BE`; every draw of that range can occur (how the step carries it: notes/assumptions/5.md); a wait of zero ticks senses
again at once. BO_UNIT is written out from 10_state.md R44. -/
def Obligations.BackoffWaitIsBounded : Prop :=
  (∀ s : State, boUnit s.regs = 256 * s.regs.boUnit1.toNat + s.regs.boUnit0.toNat) ∧
  ∀ (s : State) (e : Nat), e = min s.regs.csmaAttempts.toNat (s.regs.csmaBe.extractLsb' 4 4).toNat →
    (∀ k : Nat, ∃ d : Nat, d < 2 ^ e ∧ (k < 2 ^ e → d = k) ∧
      startBackoff k s =
        if d * boUnit s.regs = 0 then
          { s with
            regs := { s.regs with csmaAttempts := s.regs.csmaAttempts + 1 }
            csma :=
              { s.csma with phase := .sense, samplesLeft := s.regs.senseWindow, busySeen := false, ticksLeft := 0 } }
        else { s with csma := { s.csma with phase := .backoff, ticksLeft := d * boUnit s.regs } })

/-- 43_csma_engine.md R287, R288: a tick counts the wait down, and its last tick begins the next sensing window. -/
def Obligations.TickCountsDown : Prop :=
  ∀ (s : State) (rest : List Input),
    s.faults = [] → s.radio = .ready → s.csma.active = true → s.csma.phase = .backoff → 1 ≤ s.csma.ticksLeft →
      s.input = .tick :: rest →
        step s =
          .next (if s.csma.ticksLeft = 1 then
            { s with
              regs := { s.regs with csmaAttempts := s.regs.csmaAttempts + 1 }
              csma :=
                { s.csma with phase := .sense, samplesLeft := s.regs.senseWindow, busySeen := false, ticksLeft := 0 }
              input := rest }
          else { s with csma := { s.csma with ticksLeft := s.csma.ticksLeft - 1 }, input := rest })

/-- 43_csma_engine.md R292: on a permanently busy channel a persistent run ends with MAX_RETRIES after exactly `CSMA_MAX_RETRY`
sensing windows of `SENSE_WINDOW` samples, never sooner and never later, in READY, with nothing sent. -/
def Obligations.BusyChannelEndsAfterExactlyMaxRetryWindows : Prop :=
  ∀ (s t : State) (es : List Input),
    readyIdle s = true → RegsInv s → csmaPersist s.regs = true →
      es.all (busyChannelInput s.regs.rssiThresh) = true → runEnabled es (startCsma s) = some t →
        t.radio = .ready ∧ t.airOut = s.airOut ∧ t.txFifo = s.txFifo ∧
          (t.csma.active = true →
            t.regs.csmaResult = 0#8 ∧ t.regs.csmaAttempts.toNat ≤ s.regs.csmaMaxRetry.toNat ∧
              (es.filter isCsmaSample).length < s.regs.csmaMaxRetry.toNat * s.regs.senseWindow.toNat) ∧
          (t.csma.active = false →
            t.regs.csmaResult = 3#8 ∧ t.regs.csmaAttempts = s.regs.csmaMaxRetry ∧
              (es.filter isCsmaSample).length = s.regs.csmaMaxRetry.toNat * s.regs.senseWindow.toNat)

/-! ## Invariants and whole-machine rules -/

/-- POWERED, PENDING and CSMA_ACTIVE agree with RADIO_STATE after every step that starts where they do (10_state.md R23 to R25,
43_csma_engine.md R281). -/
def Obligations.StepKeepsPowerInv : Prop :=
  ∀ s t : State, PowerInv s → step s = .next t → PowerInv t

/-- The machine's whole invariant is kept by every step: legal parameters and registers, FIFO bounds, and the engines' fields
in the ranges of 10_state.md R25 to R27 and 43_csma_engine.md R295. -/
def Obligations.StepKeepsMachineInv : Prop :=
  ∀ s t : State, MachineInv s → step s = .next t → MachineInv t

/-- The machine's invariant holds at State.reset, the power-on state of 70_reset_and_hazards.md R390. That the registers hold
their reset values there is the model's choice (notes/assumptions/1.md, 6.md). -/
def Obligations.MachineInvAtReset : Prop :=
  MachineInv State.reset

/-- 41_state_machine.md R189: every step follows an edge of the transition relation; TX is entered only from READY, or at lock
success with a pending TX, in the step that signals READY_REACHED; SHUTDOWN is never entered. -/
def Obligations.TransitionRelation : Prop :=
  ∀ s t : State, PowerInv s → step s = .next t →
    radioEdge s.radio t.radio = true ∧
      (t.radio = .tx → s.radio ≠ .tx →
        s.radio = .ready ∨ s.radio = .locking ∧ s.pending = .tx ∧ t.regs.eventFlags1.getLsbD 5 = true) ∧
      (t.radio = .shutdown → s.radio = .shutdown)

/-- 10_state.md R33, last sentence: from a BUSY state no step changes a locked register, the one that ends the run included, so
a TX, RX or CSMA run and LOCKING see one configuration from start to end. The steps left out are SRES, which resets it
(41_state_machine.md R172), and a power-up, which no BUSY state of a run can take (R170). -/
def Obligations.ConfigurationIsConstantWhileBusy : Prop :=
  ∀ s t : State, busy s = true → step s = .next t →
    lockedRegs t.regs = lockedRegs s.regs ∧ frameCfgOf t = frameCfgOf s ∨
      ∃ bytes rest i tail, s.input = .transaction bytes :: rest ∧ decode s.cfg.strobeCode bytes = .ok i ∧
        (i = .sres tail ∨ s.powered = false ∧ i = .pwrup tail)

/-- 60_exceptions.md R354: an error flag once set stays set through every step, but for a read of ERR_FLAGS, SRES, or the
power-up. -/
def Obligations.ErrorFlagsAreSticky : Prop :=
  ∀ s t : State, step s = .next t →
    ((s.err.cfgErr = true → t.err.cfgErr = true) ∧ (s.err.cmdErr = true → t.err.cmdErr = true) ∧
        (s.err.lockErr = true → t.err.lockErr = true) ∧ (s.err.rxOverrun = true → t.err.rxOverrun = true) ∧
        (s.err.txUnderflow = true → t.err.txUnderflow = true)) ∨
      ∃ bytes rest i, s.input = .transaction bytes :: rest ∧ decode s.cfg.strobeCode bytes = .ok i ∧
        (readsErrFlags i = true ∨ (∃ tail, i = .sres tail) ∨ s.powered = false ∧ ∃ tail, i = .pwrup tail)

/-- 10_state.md R56: AIR_OUT, PIN_TRACE and FAULTS only grow; no step, not even a reset, clears them. -/
def Obligations.OutputRecordsOnlyGrow : Prop :=
  ∀ s t : State, step s = .next t →
    s.airOut <+: t.airOut ∧ s.pinTrace <+: t.pinTrace ∧ s.faults <+: t.faults

/-- 60_exceptions.md R356: only a read or write transaction of a powered chip that breaks a FIFO or burst bound (20_memory.md
R78, R79) records a HostFault; engine and environment steps, strobes and reserved headers never do. That an unpowered chip and a
strobe or reserved header with more than MAX_BURST bytes record none, although R79 speaks of any transaction, is the model's
reading of 40_bus_transactions.md R140, R149, R150 and 30_encoding.md R106 (notes/assumptions/16.md). -/
def Obligations.OnlyBrokenHostDutiesFault : Prop :=
  ∀ s t : State, step s = .next t → t.faults ≠ [] →
    s.powered = true ∧ ∃ bytes rest a d, s.input = .transaction bytes :: rest ∧ d ≠ [] ∧
      (bytes = 0x00#8 :: a :: d ∧
          (¬ BurstFits a d.length s ∨ a = 0xFF#8 ∧ ¬ s.txFifo.length + d.length ≤ s.cfg.fifoCap) ∨
        bytes = 0x01#8 :: a :: d ∧ (¬ BurstFits a d.length s ∨ a = 0xFF#8 ∧ s.rxFifo.length < d.length))

/-- 00_scope.md R10 and 93_implementation_defined.md U14: the free bytes the chip returns reach only the reply. Machines that
differ in them and in the last reply stay equal in everything else. -/
def Obligations.FreeBytesReachOnlyTheReply : Prop :=
  ∀ (s t : State) (n : Nat) (old : List Byte), step s = .next t →
    ∃ u, step { s with drawIndex := n, reply := old } = .next u ∧
      { u with drawIndex := t.drawIndex, reply := t.reply } = t
end

