-- ==== Sys2Proof/Laws/State.lean ====
section
/-! SUPPORT. One lemma per field of each update of the state, true by rfl: later proofs never unfold an update. The fields an
update leaves alone are as much its meaning as the ones it writes. -/

namespace Sys2Proof.Machine

open Sys2Proof

@[simp] theorem setErr_cfg (f : ErrFlag) (s : State) : (setErr f s).cfg = s.cfg := rfl
@[simp] theorem setErr_radio (f : ErrFlag) (s : State) : (setErr f s).radio = s.radio := rfl
@[simp] theorem setErr_pending (f : ErrFlag) (s : State) : (setErr f s).pending = s.pending := rfl
@[simp] theorem setErr_powered (f : ErrFlag) (s : State) : (setErr f s).powered = s.powered := rfl
@[simp] theorem setErr_regs (f : ErrFlag) (s : State) : (setErr f s).regs = s.regs := rfl
@[simp] theorem setErr_err (f : ErrFlag) (s : State) : (setErr f s).err = s.err.raise f := rfl
@[simp] theorem setErr_txFifo (f : ErrFlag) (s : State) : (setErr f s).txFifo = s.txFifo := rfl
@[simp] theorem setErr_rxFifo (f : ErrFlag) (s : State) : (setErr f s).rxFifo = s.rxFifo := rfl
@[simp] theorem setErr_csma (f : ErrFlag) (s : State) : (setErr f s).csma = s.csma := rfl
@[simp] theorem setErr_tx (f : ErrFlag) (s : State) : (setErr f s).tx = s.tx := rfl
@[simp] theorem setErr_rx (f : ErrFlag) (s : State) : (setErr f s).rx = s.rx := rfl
@[simp] theorem setErr_airOut (f : ErrFlag) (s : State) : (setErr f s).airOut = s.airOut := rfl
@[simp] theorem setErr_pinTrace (f : ErrFlag) (s : State) : (setErr f s).pinTrace = s.pinTrace := rfl
@[simp] theorem setErr_faults (f : ErrFlag) (s : State) : (setErr f s).faults = s.faults := rfl
@[simp] theorem setErr_txnIndex (f : ErrFlag) (s : State) : (setErr f s).txnIndex = s.txnIndex := rfl
@[simp] theorem setErr_reply (f : ErrFlag) (s : State) : (setErr f s).reply = s.reply := rfl
@[simp] theorem setErr_drawIndex (f : ErrFlag) (s : State) : (setErr f s).drawIndex = s.drawIndex := rfl
@[simp] theorem setErr_input (f : ErrFlag) (s : State) : (setErr f s).input = s.input := rfl

@[simp] theorem setRadio_cfg (r : RadioState) (s : State) : (setRadio r s).cfg = s.cfg := rfl
@[simp] theorem setRadio_radio (r : RadioState) (s : State) : (setRadio r s).radio = r := rfl
@[simp] theorem setRadio_pending (r : RadioState) (s : State) : (setRadio r s).pending = s.pending := rfl
@[simp] theorem setRadio_powered (r : RadioState) (s : State) : (setRadio r s).powered = s.powered := rfl
@[simp] theorem setRadio_regs (r : RadioState) (s : State) : (setRadio r s).regs = s.regs := rfl
@[simp] theorem setRadio_err (r : RadioState) (s : State) : (setRadio r s).err = s.err := rfl
@[simp] theorem setRadio_txFifo (r : RadioState) (s : State) : (setRadio r s).txFifo = s.txFifo := rfl
@[simp] theorem setRadio_rxFifo (r : RadioState) (s : State) : (setRadio r s).rxFifo = s.rxFifo := rfl
@[simp] theorem setRadio_csma (r : RadioState) (s : State) : (setRadio r s).csma = s.csma := rfl
@[simp] theorem setRadio_tx (r : RadioState) (s : State) : (setRadio r s).tx = s.tx := rfl
@[simp] theorem setRadio_rx (r : RadioState) (s : State) : (setRadio r s).rx = s.rx := rfl
@[simp] theorem setRadio_airOut (r : RadioState) (s : State) : (setRadio r s).airOut = s.airOut := rfl
@[simp] theorem setRadio_pinTrace (r : RadioState) (s : State) : (setRadio r s).pinTrace = s.pinTrace := rfl
@[simp] theorem setRadio_faults (r : RadioState) (s : State) : (setRadio r s).faults = s.faults := rfl
@[simp] theorem setRadio_txnIndex (r : RadioState) (s : State) : (setRadio r s).txnIndex = s.txnIndex := rfl
@[simp] theorem setRadio_reply (r : RadioState) (s : State) : (setRadio r s).reply = s.reply := rfl
@[simp] theorem setRadio_drawIndex (r : RadioState) (s : State) : (setRadio r s).drawIndex = s.drawIndex := rfl
@[simp] theorem setRadio_input (r : RadioState) (s : State) : (setRadio r s).input = s.input := rfl

@[simp] theorem setPending_cfg (p : Pending) (s : State) : (setPending p s).cfg = s.cfg := rfl
@[simp] theorem setPending_radio (p : Pending) (s : State) : (setPending p s).radio = s.radio := rfl
@[simp] theorem setPending_pending (p : Pending) (s : State) : (setPending p s).pending = p := rfl
@[simp] theorem setPending_powered (p : Pending) (s : State) : (setPending p s).powered = s.powered := rfl
@[simp] theorem setPending_regs (p : Pending) (s : State) : (setPending p s).regs = s.regs := rfl
@[simp] theorem setPending_err (p : Pending) (s : State) : (setPending p s).err = s.err := rfl
@[simp] theorem setPending_txFifo (p : Pending) (s : State) : (setPending p s).txFifo = s.txFifo := rfl
@[simp] theorem setPending_rxFifo (p : Pending) (s : State) : (setPending p s).rxFifo = s.rxFifo := rfl
@[simp] theorem setPending_csma (p : Pending) (s : State) : (setPending p s).csma = s.csma := rfl
@[simp] theorem setPending_tx (p : Pending) (s : State) : (setPending p s).tx = s.tx := rfl
@[simp] theorem setPending_rx (p : Pending) (s : State) : (setPending p s).rx = s.rx := rfl
@[simp] theorem setPending_airOut (p : Pending) (s : State) : (setPending p s).airOut = s.airOut := rfl
@[simp] theorem setPending_pinTrace (p : Pending) (s : State) : (setPending p s).pinTrace = s.pinTrace := rfl
@[simp] theorem setPending_faults (p : Pending) (s : State) : (setPending p s).faults = s.faults := rfl
@[simp] theorem setPending_txnIndex (p : Pending) (s : State) : (setPending p s).txnIndex = s.txnIndex := rfl
@[simp] theorem setPending_reply (p : Pending) (s : State) : (setPending p s).reply = s.reply := rfl
@[simp] theorem setPending_drawIndex (p : Pending) (s : State) : (setPending p s).drawIndex = s.drawIndex := rfl
@[simp] theorem setPending_input (p : Pending) (s : State) : (setPending p s).input = s.input := rfl

@[simp] theorem signal_cfg (e : Event) (s : State) : (signal e s).cfg = s.cfg := rfl
@[simp] theorem signal_radio (e : Event) (s : State) : (signal e s).radio = s.radio := rfl
@[simp] theorem signal_pending (e : Event) (s : State) : (signal e s).pending = s.pending := rfl
@[simp] theorem signal_powered (e : Event) (s : State) : (signal e s).powered = s.powered := rfl
@[simp] theorem signal_regs (e : Event) (s : State) : (signal e s).regs = setEventFlag (eventSel e) s.regs := rfl
@[simp] theorem signal_err (e : Event) (s : State) : (signal e s).err = s.err := rfl
@[simp] theorem signal_txFifo (e : Event) (s : State) : (signal e s).txFifo = s.txFifo := rfl
@[simp] theorem signal_rxFifo (e : Event) (s : State) : (signal e s).rxFifo = s.rxFifo := rfl
@[simp] theorem signal_csma (e : Event) (s : State) : (signal e s).csma = s.csma := rfl
@[simp] theorem signal_tx (e : Event) (s : State) : (signal e s).tx = s.tx := rfl
@[simp] theorem signal_rx (e : Event) (s : State) : (signal e s).rx = s.rx := rfl
@[simp] theorem signal_airOut (e : Event) (s : State) : (signal e s).airOut = s.airOut := rfl
@[simp] theorem signal_pinTrace (e : Event) (s : State) : (signal e s).pinTrace = s.pinTrace ++ boundPins (eventSel e) 0 s.regs.gpioCfg := rfl
@[simp] theorem signal_faults (e : Event) (s : State) : (signal e s).faults = s.faults := rfl
@[simp] theorem signal_txnIndex (e : Event) (s : State) : (signal e s).txnIndex = s.txnIndex := rfl
@[simp] theorem signal_reply (e : Event) (s : State) : (signal e s).reply = s.reply := rfl
@[simp] theorem signal_drawIndex (e : Event) (s : State) : (signal e s).drawIndex = s.drawIndex := rfl
@[simp] theorem signal_input (e : Event) (s : State) : (signal e s).input = s.input := rfl

@[simp] theorem flushTxFifo_cfg (s : State) : (flushTxFifo s).cfg = s.cfg := rfl
@[simp] theorem flushTxFifo_radio (s : State) : (flushTxFifo s).radio = s.radio := rfl
@[simp] theorem flushTxFifo_pending (s : State) : (flushTxFifo s).pending = s.pending := rfl
@[simp] theorem flushTxFifo_powered (s : State) : (flushTxFifo s).powered = s.powered := rfl
@[simp] theorem flushTxFifo_regs (s : State) : (flushTxFifo s).regs = s.regs := rfl
@[simp] theorem flushTxFifo_err (s : State) : (flushTxFifo s).err = s.err := rfl
@[simp] theorem flushTxFifo_txFifo (s : State) : (flushTxFifo s).txFifo = [] := rfl
@[simp] theorem flushTxFifo_rxFifo (s : State) : (flushTxFifo s).rxFifo = s.rxFifo := rfl
@[simp] theorem flushTxFifo_csma (s : State) : (flushTxFifo s).csma = s.csma := rfl
@[simp] theorem flushTxFifo_tx (s : State) : (flushTxFifo s).tx = s.tx := rfl
@[simp] theorem flushTxFifo_rx (s : State) : (flushTxFifo s).rx = s.rx := rfl
@[simp] theorem flushTxFifo_airOut (s : State) : (flushTxFifo s).airOut = s.airOut := rfl
@[simp] theorem flushTxFifo_pinTrace (s : State) : (flushTxFifo s).pinTrace = s.pinTrace := rfl
@[simp] theorem flushTxFifo_faults (s : State) : (flushTxFifo s).faults = s.faults := rfl
@[simp] theorem flushTxFifo_txnIndex (s : State) : (flushTxFifo s).txnIndex = s.txnIndex := rfl
@[simp] theorem flushTxFifo_reply (s : State) : (flushTxFifo s).reply = s.reply := rfl
@[simp] theorem flushTxFifo_drawIndex (s : State) : (flushTxFifo s).drawIndex = s.drawIndex := rfl
@[simp] theorem flushTxFifo_input (s : State) : (flushTxFifo s).input = s.input := rfl

@[simp] theorem flushRxFifo_cfg (s : State) : (flushRxFifo s).cfg = s.cfg := rfl
@[simp] theorem flushRxFifo_radio (s : State) : (flushRxFifo s).radio = s.radio := rfl
@[simp] theorem flushRxFifo_pending (s : State) : (flushRxFifo s).pending = s.pending := rfl
@[simp] theorem flushRxFifo_powered (s : State) : (flushRxFifo s).powered = s.powered := rfl
@[simp] theorem flushRxFifo_regs (s : State) : (flushRxFifo s).regs = s.regs := rfl
@[simp] theorem flushRxFifo_err (s : State) : (flushRxFifo s).err = s.err := rfl
@[simp] theorem flushRxFifo_txFifo (s : State) : (flushRxFifo s).txFifo = s.txFifo := rfl
@[simp] theorem flushRxFifo_rxFifo (s : State) : (flushRxFifo s).rxFifo = [] := rfl
@[simp] theorem flushRxFifo_csma (s : State) : (flushRxFifo s).csma = s.csma := rfl
@[simp] theorem flushRxFifo_tx (s : State) : (flushRxFifo s).tx = s.tx := rfl
@[simp] theorem flushRxFifo_rx (s : State) : (flushRxFifo s).rx = s.rx := rfl
@[simp] theorem flushRxFifo_airOut (s : State) : (flushRxFifo s).airOut = s.airOut := rfl
@[simp] theorem flushRxFifo_pinTrace (s : State) : (flushRxFifo s).pinTrace = s.pinTrace := rfl
@[simp] theorem flushRxFifo_faults (s : State) : (flushRxFifo s).faults = s.faults := rfl
@[simp] theorem flushRxFifo_txnIndex (s : State) : (flushRxFifo s).txnIndex = s.txnIndex := rfl
@[simp] theorem flushRxFifo_reply (s : State) : (flushRxFifo s).reply = s.reply := rfl
@[simp] theorem flushRxFifo_drawIndex (s : State) : (flushRxFifo s).drawIndex = s.drawIndex := rfl
@[simp] theorem flushRxFifo_input (s : State) : (flushRxFifo s).input = s.input := rfl

@[simp] theorem raiseHostFault_cfg (info : HostFault) (s : State) : (raiseHostFault info s).cfg = s.cfg := rfl
@[simp] theorem raiseHostFault_radio (info : HostFault) (s : State) : (raiseHostFault info s).radio = s.radio := rfl
@[simp] theorem raiseHostFault_pending (info : HostFault) (s : State) : (raiseHostFault info s).pending = s.pending := rfl
@[simp] theorem raiseHostFault_powered (info : HostFault) (s : State) : (raiseHostFault info s).powered = s.powered := rfl
@[simp] theorem raiseHostFault_regs (info : HostFault) (s : State) : (raiseHostFault info s).regs = s.regs := rfl
@[simp] theorem raiseHostFault_err (info : HostFault) (s : State) : (raiseHostFault info s).err = s.err := rfl
@[simp] theorem raiseHostFault_txFifo (info : HostFault) (s : State) : (raiseHostFault info s).txFifo = s.txFifo := rfl
@[simp] theorem raiseHostFault_rxFifo (info : HostFault) (s : State) : (raiseHostFault info s).rxFifo = s.rxFifo := rfl
@[simp] theorem raiseHostFault_csma (info : HostFault) (s : State) : (raiseHostFault info s).csma = s.csma := rfl
@[simp] theorem raiseHostFault_tx (info : HostFault) (s : State) : (raiseHostFault info s).tx = s.tx := rfl
@[simp] theorem raiseHostFault_rx (info : HostFault) (s : State) : (raiseHostFault info s).rx = s.rx := rfl
@[simp] theorem raiseHostFault_airOut (info : HostFault) (s : State) : (raiseHostFault info s).airOut = s.airOut := rfl
@[simp] theorem raiseHostFault_pinTrace (info : HostFault) (s : State) : (raiseHostFault info s).pinTrace = s.pinTrace := rfl
@[simp] theorem raiseHostFault_faults (info : HostFault) (s : State) : (raiseHostFault info s).faults = s.faults ++ [(info, s.txnIndex)] := rfl
@[simp] theorem raiseHostFault_txnIndex (info : HostFault) (s : State) : (raiseHostFault info s).txnIndex = s.txnIndex := rfl
@[simp] theorem raiseHostFault_reply (info : HostFault) (s : State) : (raiseHostFault info s).reply = s.reply := rfl
@[simp] theorem raiseHostFault_drawIndex (info : HostFault) (s : State) : (raiseHostFault info s).drawIndex = s.drawIndex := rfl
@[simp] theorem raiseHostFault_input (info : HostFault) (s : State) : (raiseHostFault info s).input = s.input := rfl

@[simp] theorem finish_cfg (reply : List Byte) (s : State) : (finish reply s).cfg = s.cfg := rfl
@[simp] theorem finish_radio (reply : List Byte) (s : State) : (finish reply s).radio = s.radio := rfl
@[simp] theorem finish_pending (reply : List Byte) (s : State) : (finish reply s).pending = s.pending := rfl
@[simp] theorem finish_powered (reply : List Byte) (s : State) : (finish reply s).powered = s.powered := rfl
@[simp] theorem finish_regs (reply : List Byte) (s : State) : (finish reply s).regs = s.regs := rfl
@[simp] theorem finish_err (reply : List Byte) (s : State) : (finish reply s).err = s.err := rfl
@[simp] theorem finish_txFifo (reply : List Byte) (s : State) : (finish reply s).txFifo = s.txFifo := rfl
@[simp] theorem finish_rxFifo (reply : List Byte) (s : State) : (finish reply s).rxFifo = s.rxFifo := rfl
@[simp] theorem finish_csma (reply : List Byte) (s : State) : (finish reply s).csma = s.csma := rfl
@[simp] theorem finish_tx (reply : List Byte) (s : State) : (finish reply s).tx = s.tx := rfl
@[simp] theorem finish_rx (reply : List Byte) (s : State) : (finish reply s).rx = s.rx := rfl
@[simp] theorem finish_airOut (reply : List Byte) (s : State) : (finish reply s).airOut = s.airOut := rfl
@[simp] theorem finish_pinTrace (reply : List Byte) (s : State) : (finish reply s).pinTrace = s.pinTrace := rfl
@[simp] theorem finish_faults (reply : List Byte) (s : State) : (finish reply s).faults = s.faults := rfl
@[simp] theorem finish_txnIndex (reply : List Byte) (s : State) : (finish reply s).txnIndex = s.txnIndex + 1 := rfl
@[simp] theorem finish_reply (reply : List Byte) (s : State) : (finish reply s).reply = reply := rfl
@[simp] theorem finish_drawIndex (reply : List Byte) (s : State) : (finish reply s).drawIndex = s.drawIndex := rfl
@[simp] theorem finish_input (reply : List Byte) (s : State) : (finish reply s).input = s.input := rfl

@[simp] theorem emitAir_cfg (b : Byte) (s : State) : (emitAir b s).cfg = s.cfg := rfl
@[simp] theorem emitAir_radio (b : Byte) (s : State) : (emitAir b s).radio = s.radio := rfl
@[simp] theorem emitAir_pending (b : Byte) (s : State) : (emitAir b s).pending = s.pending := rfl
@[simp] theorem emitAir_powered (b : Byte) (s : State) : (emitAir b s).powered = s.powered := rfl
@[simp] theorem emitAir_regs (b : Byte) (s : State) : (emitAir b s).regs = s.regs := rfl
@[simp] theorem emitAir_err (b : Byte) (s : State) : (emitAir b s).err = s.err := rfl
@[simp] theorem emitAir_txFifo (b : Byte) (s : State) : (emitAir b s).txFifo = s.txFifo := rfl
@[simp] theorem emitAir_rxFifo (b : Byte) (s : State) : (emitAir b s).rxFifo = s.rxFifo := rfl
@[simp] theorem emitAir_csma (b : Byte) (s : State) : (emitAir b s).csma = s.csma := rfl
@[simp] theorem emitAir_tx (b : Byte) (s : State) : (emitAir b s).tx = s.tx := rfl
@[simp] theorem emitAir_rx (b : Byte) (s : State) : (emitAir b s).rx = s.rx := rfl
@[simp] theorem emitAir_airOut (b : Byte) (s : State) : (emitAir b s).airOut = s.airOut ++ [b] := rfl
@[simp] theorem emitAir_pinTrace (b : Byte) (s : State) : (emitAir b s).pinTrace = s.pinTrace := rfl
@[simp] theorem emitAir_faults (b : Byte) (s : State) : (emitAir b s).faults = s.faults := rfl
@[simp] theorem emitAir_txnIndex (b : Byte) (s : State) : (emitAir b s).txnIndex = s.txnIndex := rfl
@[simp] theorem emitAir_reply (b : Byte) (s : State) : (emitAir b s).reply = s.reply := rfl
@[simp] theorem emitAir_drawIndex (b : Byte) (s : State) : (emitAir b s).drawIndex = s.drawIndex := rfl
@[simp] theorem emitAir_input (b : Byte) (s : State) : (emitAir b s).input = s.input := rfl

@[simp] theorem setRxPhase_cfg (q : RxPhase) (s : State) : (setRxPhase q s).cfg = s.cfg := rfl
@[simp] theorem setRxPhase_radio (q : RxPhase) (s : State) : (setRxPhase q s).radio = s.radio := rfl
@[simp] theorem setRxPhase_pending (q : RxPhase) (s : State) : (setRxPhase q s).pending = s.pending := rfl
@[simp] theorem setRxPhase_powered (q : RxPhase) (s : State) : (setRxPhase q s).powered = s.powered := rfl
@[simp] theorem setRxPhase_regs (q : RxPhase) (s : State) : (setRxPhase q s).regs = s.regs := rfl
@[simp] theorem setRxPhase_err (q : RxPhase) (s : State) : (setRxPhase q s).err = s.err := rfl
@[simp] theorem setRxPhase_txFifo (q : RxPhase) (s : State) : (setRxPhase q s).txFifo = s.txFifo := rfl
@[simp] theorem setRxPhase_rxFifo (q : RxPhase) (s : State) : (setRxPhase q s).rxFifo = s.rxFifo := rfl
@[simp] theorem setRxPhase_csma (q : RxPhase) (s : State) : (setRxPhase q s).csma = s.csma := rfl
@[simp] theorem setRxPhase_tx (q : RxPhase) (s : State) : (setRxPhase q s).tx = s.tx := rfl
@[simp] theorem setRxPhase_rx (q : RxPhase) (s : State) : (setRxPhase q s).rx = { s.rx with phase := q } := rfl
@[simp] theorem setRxPhase_airOut (q : RxPhase) (s : State) : (setRxPhase q s).airOut = s.airOut := rfl
@[simp] theorem setRxPhase_pinTrace (q : RxPhase) (s : State) : (setRxPhase q s).pinTrace = s.pinTrace := rfl
@[simp] theorem setRxPhase_faults (q : RxPhase) (s : State) : (setRxPhase q s).faults = s.faults := rfl
@[simp] theorem setRxPhase_txnIndex (q : RxPhase) (s : State) : (setRxPhase q s).txnIndex = s.txnIndex := rfl
@[simp] theorem setRxPhase_reply (q : RxPhase) (s : State) : (setRxPhase q s).reply = s.reply := rfl
@[simp] theorem setRxPhase_drawIndex (q : RxPhase) (s : State) : (setRxPhase q s).drawIndex = s.drawIndex := rfl
@[simp] theorem setRxPhase_input (q : RxPhase) (s : State) : (setRxPhase q s).input = s.input := rfl

@[simp] theorem setRxResult_cfg (v : Byte) (s : State) : (setRxResult v s).cfg = s.cfg := rfl
@[simp] theorem setRxResult_radio (v : Byte) (s : State) : (setRxResult v s).radio = s.radio := rfl
@[simp] theorem setRxResult_pending (v : Byte) (s : State) : (setRxResult v s).pending = s.pending := rfl
@[simp] theorem setRxResult_powered (v : Byte) (s : State) : (setRxResult v s).powered = s.powered := rfl
@[simp] theorem setRxResult_regs (v : Byte) (s : State) : (setRxResult v s).regs = { s.regs with rxResult := v } := rfl
@[simp] theorem setRxResult_err (v : Byte) (s : State) : (setRxResult v s).err = s.err := rfl
@[simp] theorem setRxResult_txFifo (v : Byte) (s : State) : (setRxResult v s).txFifo = s.txFifo := rfl
@[simp] theorem setRxResult_rxFifo (v : Byte) (s : State) : (setRxResult v s).rxFifo = s.rxFifo := rfl
@[simp] theorem setRxResult_csma (v : Byte) (s : State) : (setRxResult v s).csma = s.csma := rfl
@[simp] theorem setRxResult_tx (v : Byte) (s : State) : (setRxResult v s).tx = s.tx := rfl
@[simp] theorem setRxResult_rx (v : Byte) (s : State) : (setRxResult v s).rx = s.rx := rfl
@[simp] theorem setRxResult_airOut (v : Byte) (s : State) : (setRxResult v s).airOut = s.airOut := rfl
@[simp] theorem setRxResult_pinTrace (v : Byte) (s : State) : (setRxResult v s).pinTrace = s.pinTrace := rfl
@[simp] theorem setRxResult_faults (v : Byte) (s : State) : (setRxResult v s).faults = s.faults := rfl
@[simp] theorem setRxResult_txnIndex (v : Byte) (s : State) : (setRxResult v s).txnIndex = s.txnIndex := rfl
@[simp] theorem setRxResult_reply (v : Byte) (s : State) : (setRxResult v s).reply = s.reply := rfl
@[simp] theorem setRxResult_drawIndex (v : Byte) (s : State) : (setRxResult v s).drawIndex = s.drawIndex := rfl
@[simp] theorem setRxResult_input (v : Byte) (s : State) : (setRxResult v s).input = s.input := rfl

@[simp] theorem setRssi_cfg (v : Byte) (s : State) : (setRssi v s).cfg = s.cfg := rfl
@[simp] theorem setRssi_radio (v : Byte) (s : State) : (setRssi v s).radio = s.radio := rfl
@[simp] theorem setRssi_pending (v : Byte) (s : State) : (setRssi v s).pending = s.pending := rfl
@[simp] theorem setRssi_powered (v : Byte) (s : State) : (setRssi v s).powered = s.powered := rfl
@[simp] theorem setRssi_regs (v : Byte) (s : State) : (setRssi v s).regs = { s.regs with rssiLevel := v } := rfl
@[simp] theorem setRssi_err (v : Byte) (s : State) : (setRssi v s).err = s.err := rfl
@[simp] theorem setRssi_txFifo (v : Byte) (s : State) : (setRssi v s).txFifo = s.txFifo := rfl
@[simp] theorem setRssi_rxFifo (v : Byte) (s : State) : (setRssi v s).rxFifo = s.rxFifo := rfl
@[simp] theorem setRssi_csma (v : Byte) (s : State) : (setRssi v s).csma = s.csma := rfl
@[simp] theorem setRssi_tx (v : Byte) (s : State) : (setRssi v s).tx = s.tx := rfl
@[simp] theorem setRssi_rx (v : Byte) (s : State) : (setRssi v s).rx = s.rx := rfl
@[simp] theorem setRssi_airOut (v : Byte) (s : State) : (setRssi v s).airOut = s.airOut := rfl
@[simp] theorem setRssi_pinTrace (v : Byte) (s : State) : (setRssi v s).pinTrace = s.pinTrace := rfl
@[simp] theorem setRssi_faults (v : Byte) (s : State) : (setRssi v s).faults = s.faults := rfl
@[simp] theorem setRssi_txnIndex (v : Byte) (s : State) : (setRssi v s).txnIndex = s.txnIndex := rfl
@[simp] theorem setRssi_reply (v : Byte) (s : State) : (setRssi v s).reply = s.reply := rfl
@[simp] theorem setRssi_drawIndex (v : Byte) (s : State) : (setRssi v s).drawIndex = s.drawIndex := rfl
@[simp] theorem setRssi_input (v : Byte) (s : State) : (setRssi v s).input = s.input := rfl

@[simp] theorem endCsma_cfg (v : Byte) (s : State) : (endCsma v s).cfg = s.cfg := rfl
@[simp] theorem endCsma_radio (v : Byte) (s : State) : (endCsma v s).radio = s.radio := rfl
@[simp] theorem endCsma_pending (v : Byte) (s : State) : (endCsma v s).pending = s.pending := rfl
@[simp] theorem endCsma_powered (v : Byte) (s : State) : (endCsma v s).powered = s.powered := rfl
@[simp] theorem endCsma_regs (v : Byte) (s : State) : (endCsma v s).regs = { s.regs with csmaResult := v } := rfl
@[simp] theorem endCsma_err (v : Byte) (s : State) : (endCsma v s).err = s.err := rfl
@[simp] theorem endCsma_txFifo (v : Byte) (s : State) : (endCsma v s).txFifo = s.txFifo := rfl
@[simp] theorem endCsma_rxFifo (v : Byte) (s : State) : (endCsma v s).rxFifo = s.rxFifo := rfl
@[simp] theorem endCsma_csma (v : Byte) (s : State) : (endCsma v s).csma = { s.csma with active := false } := rfl
@[simp] theorem endCsma_tx (v : Byte) (s : State) : (endCsma v s).tx = s.tx := rfl
@[simp] theorem endCsma_rx (v : Byte) (s : State) : (endCsma v s).rx = s.rx := rfl
@[simp] theorem endCsma_airOut (v : Byte) (s : State) : (endCsma v s).airOut = s.airOut := rfl
@[simp] theorem endCsma_pinTrace (v : Byte) (s : State) : (endCsma v s).pinTrace = s.pinTrace := rfl
@[simp] theorem endCsma_faults (v : Byte) (s : State) : (endCsma v s).faults = s.faults := rfl
@[simp] theorem endCsma_txnIndex (v : Byte) (s : State) : (endCsma v s).txnIndex = s.txnIndex := rfl
@[simp] theorem endCsma_reply (v : Byte) (s : State) : (endCsma v s).reply = s.reply := rfl
@[simp] theorem endCsma_drawIndex (v : Byte) (s : State) : (endCsma v s).drawIndex = s.drawIndex := rfl
@[simp] theorem endCsma_input (v : Byte) (s : State) : (endCsma v s).input = s.input := rfl

@[simp] theorem resetAll_cfg (s : State) : (resetAll s).cfg = s.cfg := rfl
@[simp] theorem resetAll_radio (s : State) : (resetAll s).radio = s.radio := rfl
@[simp] theorem resetAll_pending (s : State) : (resetAll s).pending = .none := rfl
@[simp] theorem resetAll_powered (s : State) : (resetAll s).powered = true := rfl
@[simp] theorem resetAll_regs (s : State) : (resetAll s).regs = Regs.reset s.cfg.numGpio := rfl
@[simp] theorem resetAll_err (s : State) : (resetAll s).err = ErrFlags.clear := rfl
@[simp] theorem resetAll_txFifo (s : State) : (resetAll s).txFifo = [] := rfl
@[simp] theorem resetAll_rxFifo (s : State) : (resetAll s).rxFifo = [] := rfl
@[simp] theorem resetAll_csma (s : State) : (resetAll s).csma = CsmaEngine.reset := rfl
@[simp] theorem resetAll_tx (s : State) : (resetAll s).tx = TxEngine.reset := rfl
@[simp] theorem resetAll_rx (s : State) : (resetAll s).rx = RxEngine.reset := rfl
@[simp] theorem resetAll_airOut (s : State) : (resetAll s).airOut = s.airOut := rfl
@[simp] theorem resetAll_pinTrace (s : State) : (resetAll s).pinTrace = s.pinTrace := rfl
@[simp] theorem resetAll_faults (s : State) : (resetAll s).faults = s.faults := rfl
@[simp] theorem resetAll_txnIndex (s : State) : (resetAll s).txnIndex = s.txnIndex := rfl
@[simp] theorem resetAll_reply (s : State) : (resetAll s).reply = s.reply := rfl
@[simp] theorem resetAll_drawIndex (s : State) : (resetAll s).drawIndex = s.drawIndex := rfl
@[simp] theorem resetAll_input (s : State) : (resetAll s).input = s.input := rfl

@[simp] theorem startTx_cfg (s : State) : (startTx s).cfg = s.cfg := rfl
@[simp] theorem startTx_radio (s : State) : (startTx s).radio = .tx := rfl
@[simp] theorem startTx_pending (s : State) : (startTx s).pending = s.pending := rfl
@[simp] theorem startTx_powered (s : State) : (startTx s).powered = s.powered := rfl
@[simp] theorem startTx_regs (s : State) : (startTx s).regs = s.regs := rfl
@[simp] theorem startTx_err (s : State) : (startTx s).err = s.err := rfl
@[simp] theorem startTx_txFifo (s : State) : (startTx s).txFifo = s.txFifo := rfl
@[simp] theorem startTx_rxFifo (s : State) : (startTx s).rxFifo = s.rxFifo := rfl
@[simp] theorem startTx_csma (s : State) : (startTx s).csma = s.csma := rfl
@[simp] theorem startTx_tx (s : State) : (startTx s).tx = { pos := 0, crcAcc := crcStart (frameCfgOf s) } := rfl
@[simp] theorem startTx_rx (s : State) : (startTx s).rx = s.rx := rfl
@[simp] theorem startTx_airOut (s : State) : (startTx s).airOut = s.airOut := rfl
@[simp] theorem startTx_pinTrace (s : State) : (startTx s).pinTrace = s.pinTrace := rfl
@[simp] theorem startTx_faults (s : State) : (startTx s).faults = s.faults := rfl
@[simp] theorem startTx_txnIndex (s : State) : (startTx s).txnIndex = s.txnIndex := rfl
@[simp] theorem startTx_reply (s : State) : (startTx s).reply = s.reply := rfl
@[simp] theorem startTx_drawIndex (s : State) : (startTx s).drawIndex = s.drawIndex := rfl
@[simp] theorem startTx_input (s : State) : (startTx s).input = s.input := rfl

@[simp] theorem startRx_cfg (s : State) : (startRx s).cfg = s.cfg := rfl
@[simp] theorem startRx_radio (s : State) : (startRx s).radio = .rx := rfl
@[simp] theorem startRx_pending (s : State) : (startRx s).pending = s.pending := rfl
@[simp] theorem startRx_powered (s : State) : (startRx s).powered = s.powered := rfl
@[simp] theorem startRx_regs (s : State) : (startRx s).regs = s.regs := rfl
@[simp] theorem startRx_err (s : State) : (startRx s).err = s.err := rfl
@[simp] theorem startRx_txFifo (s : State) : (startRx s).txFifo = s.txFifo := rfl
@[simp] theorem startRx_rxFifo (s : State) : (startRx s).rxFifo = s.rxFifo := rfl
@[simp] theorem startRx_csma (s : State) : (startRx s).csma = s.csma := rfl
@[simp] theorem startRx_tx (s : State) : (startRx s).tx = s.tx := rfl
@[simp] theorem startRx_rx (s : State) : (startRx s).rx = { s.rx with phase := .hunt } := rfl
@[simp] theorem startRx_airOut (s : State) : (startRx s).airOut = s.airOut := rfl
@[simp] theorem startRx_pinTrace (s : State) : (startRx s).pinTrace = s.pinTrace := rfl
@[simp] theorem startRx_faults (s : State) : (startRx s).faults = s.faults := rfl
@[simp] theorem startRx_txnIndex (s : State) : (startRx s).txnIndex = s.txnIndex := rfl
@[simp] theorem startRx_reply (s : State) : (startRx s).reply = s.reply := rfl
@[simp] theorem startRx_drawIndex (s : State) : (startRx s).drawIndex = s.drawIndex := rfl
@[simp] theorem startRx_input (s : State) : (startRx s).input = s.input := rfl

/-- What raising an event does to the registers: one of the two flag registers, nothing else (44_event_routing.md R322). -/
theorem setEventFlag_eq (n : Nat) (g : Regs) :
    setEventFlag n g =
      { g with
        eventFlags0 := if n ≤ 8 then g.eventFlags0 ||| ((1 : Byte) <<< (n - 1)) else g.eventFlags0
        eventFlags1 := if n ≤ 8 then g.eventFlags1 else g.eventFlags1 ||| ((1 : Byte) <<< (n - 9)) } := by
  unfold setEventFlag
  split <;> rfl

@[simp] theorem setEventFlag_gpioCfg (n : Nat) (g : Regs) : (setEventFlag n g).gpioCfg = g.gpioCfg := by
  rw [setEventFlag_eq]

/-- No event changes a configuration register (10_state.md R33 locks them; 44_event_routing.md R322 leaves them). -/
@[simp] theorem setEventFlag_lockedRegs (n : Nat) (g : Regs) : lockedRegs (setEventFlag n g) = lockedRegs g := by
  rw [setEventFlag_eq]
  rfl

@[simp] theorem setEventFlag_frameCfg (n : Nat) (c : Config) (g : Regs) :
    frameCfg c (setEventFlag n g) = frameCfg c g := by
  rw [setEventFlag_eq]
  rfl

@[simp] theorem setEventFlag_pktLen (n : Nat) (g : Regs) : pktLen (setEventFlag n g) = pktLen g := by
  rw [setEventFlag_eq]
  rfl

@[simp] theorem frameCfgOf_signal (e : Event) (s : State) : frameCfgOf (signal e s) = frameCfgOf s := by
  simp [frameCfgOf]

@[simp] theorem frameCfgOf_setErr (f : ErrFlag) (s : State) : frameCfgOf (setErr f s) = frameCfgOf s := rfl

@[simp] theorem frameCfgOf_setRadio (r : RadioState) (s : State) : frameCfgOf (setRadio r s) = frameCfgOf s := rfl

@[simp] theorem frameCfgOf_setPending (p : Pending) (s : State) : frameCfgOf (setPending p s) = frameCfgOf s := rfl

@[simp] theorem frameCfgOf_emitAir (b : Byte) (s : State) : frameCfgOf (emitAir b s) = frameCfgOf s := rfl

@[simp] theorem frameCfgOf_setRxResult (v : Byte) (s : State) : frameCfgOf (setRxResult v s) = frameCfgOf s := rfl

@[simp] theorem frameCfgOf_setRssi (v : Byte) (s : State) : frameCfgOf (setRssi v s) = frameCfgOf s := rfl

@[simp] theorem frameCfgOf_endCsma (v : Byte) (s : State) : frameCfgOf (endCsma v s) = frameCfgOf s := rfl

end Sys2Proof.Machine
end

