-- ==== Sys2Proof/Laws/Ops.lean ====
section
/-! SUPPORT. One lemma for each shared operation that says once everything it can do: proofs about transactions, engine steps
and the step cite these and never unfold the operation again. -/

namespace Sys2Proof.Machine

open Sys2Proof

/-! ## Strobe codes -/

/-- The codes outside the map in force, and no others, are reserved strobes (30_encoding.md R113). -/
theorem decodeStrobe_eq_reservedStrobe_iff (m : StrobeCode) (c : Byte) (tail : Bytes) :
    decodeStrobe m c tail = .reservedStrobe c tail ↔ definedStrobeCode m c = false := by
  unfold decodeStrobe
  repeat' split
  all_goals simp_all [definedStrobeCode, StrobeCode.codes]

/-- A strobe's reading keeps its code and its ignored bytes (30_encoding.md R106). -/
theorem encode_decodeStrobe (m : StrobeCode) (c : Byte) (tail : Bytes) :
    encode m (decodeStrobe m c tail) = encodeStrobe c tail := by
  unfold decodeStrobe
  repeat' split
  all_goals simp_all [encode]

/-! ## Multi-byte values -/

/-- A big-endian field, byte by byte from the most significant (20_memory.md R71, 42_packet_engine.md R220, R224). -/
theorem bytesBE_eq (n : Nat) (v : BitVec 32) :
    bytesBE n v = (List.range n).reverse.map (fun k => v.extractLsb' (8 * k) 8) := by
  induction n with
  | zero => rfl
  | succ n ih => simp [bytesBE, ih, List.range_succ]

/-- A register pair as a number (20_memory.md R71, R72). -/
theorem pair_toNat (hi lo : Byte) : (pair hi lo).toNat = 256 * hi.toNat + lo.toNat := by
  have h : lo.toNat < 2 ^ 8 := lo.isLt
  rw [pair, BitVec.toNat_append, Nat.shiftLeft_eq, Nat.mul_comm, ← Nat.two_pow_add_eq_or_of_lt h]

/-! ## Transactions -/

/-- A run is stuck exactly when a HostFault is recorded (60_exceptions.md R356). -/
theorem stuckFault_eq_none (s : State) : stuckFault s = none ↔ s.faults = [] := by
  unfold stuckFault
  cases s.faults <;> simp

/-- Every way a transaction can go on (40_bus_transactions.md R140). -/
theorem transact_next (off on : State → State) (n : Nat) (s t : State) :
    transact off n on s = .next t ↔ s.faults = [] ∧ t = if s.powered then on s else unpowered off n s := by
  unfold transact
  rcases h : stuckFault s with _ | f
  · simp only [Host.Outcome.next.injEq, (stuckFault_eq_none s).1 h, true_and]
    exact eq_comm
  · have hf : s.faults ≠ [] := fun h' => by simp [(stuckFault_eq_none s).2 h'] at h
    simp [hf]

/-- A powered chip of an unfaulted run performs the transaction. -/
theorem transact_of_live (off on : State → State) (n : Nat) (s : State) (h : Live s) :
    transact off n on s = .next (on s) :=
  (transact_next off on n s (on s)).2 ⟨h.1, by simp [h.2]⟩

/-- A faulted run is stuck at every transaction (60_exceptions.md R356). -/
theorem transact_of_faulted (off on : State → State) (n : Nat) (s : State) (info : HostFault) (index : Nat)
    (more : List (HostFault × Nat)) (h : s.faults = (info, index) :: more) :
    transact off n on s = .fault (.hostFaulted info index) := by
  simp [transact, stuckFault, h]

@[simp] theorem freeBytes_length (m n : Nat) : (freeBytes m n).length = n := by
  induction n generalizing m with
  | zero => rfl
  | succ n ih => simp [freeBytes, ih]

/-- Byte i of a free answer is the i-th byte drawn (00_scope.md R10). -/
theorem freeBytes_getElem? (m n i : Nat) (h : i < n) : (freeBytes m n)[i]? = some (Config.freeByte (m + i)) := by
  induction n generalizing m i with
  | zero => omega
  | succ n ih =>
    cases i with
    | zero => rfl
    | succ i =>
      rw [freeBytes, List.getElem?_cons_succ, ih (m + 1) i (by omega)]
      congr 2
      omega

/-- A powered transaction with free answers is its effect with the bookkeeping of `after`. -/
theorem command_eq_after (effect : State → State) (n : Nat) (s : State) (h : (effect s).drawIndex = s.drawIndex)
    (ht : (effect s).txnIndex = s.txnIndex) : command effect n s = after s n (effect s) := by
  simp only [command, finishFree, finish, after, h, ht]

/-- The checks before a burst pass exactly within the bounds of 20_memory.md R79. -/
theorem burstCheck_eq_none (a : Byte) (n : Nat) (s : State) : burstCheck a n s = none ↔ BurstFits a n s := by
  have ha : a.toNat < 256 := a.isLt
  have hp : a = fifoPort ↔ a.toNat = 255 := by
    rw [← BitVec.toNat_inj]
    rfl
  unfold burstCheck BurstFits
  rw [show (0xFF#8 : Byte) = fifoPort from rfl]
  rcases s.cfg.maxBurst with _ | m
  · simp [hp]
    omega
  · by_cases h : m < n
    · simp [h]
    · simp [h, hp]
      omega

/-- Which check a burst fails (20_memory.md R79). -/
theorem burstCheck_eq_some (a : Byte) (n : Nat) (s : State) (info : HostFault) :
    burstCheck a n s = some info →
      info = .burstLength ∧ (∃ m, s.cfg.maxBurst = some m ∧ m < n) ∨
        info = .burstRange ∧ (∀ m ∈ s.cfg.maxBurst, n ≤ m) ∧ a ≠ fifoPort ∧ 0xFE < a.toNat + n - 1 := by
  unfold burstCheck
  rcases s.cfg.maxBurst with _ | m
  · simp
    tauto
  · by_cases h : m < n
    · simp [h]
      rintro rfl
      tauto
    · simp [h]
      rintro h1 h2 rfl
      exact ⟨rfl, by omega, h1, h2⟩

/-! ## Registers and FIFOs -/

/-- The address of each register (10_state.md R30). -/
def regAddr : Reg → Nat
  | .pktCfg0 => 0x00
  | .preambleLen => 0x01
  | .syncLen => 0x02
  | .sync3 => 0x03
  | .sync2 => 0x04
  | .sync1 => 0x05
  | .sync0 => 0x06
  | .pktLen1 => 0x07
  | .pktLen0 => 0x08
  | .txDestAddr => 0x09
  | .txCtrl => 0x0A
  | .localAddr => 0x0B
  | .bcastAddr => 0x0C
  | .filterCfg => 0x0D
  | .csmaCfg => 0x0E
  | .csmaBe => 0x0F
  | .csmaMaxRetry => 0x10
  | .rssiThresh => 0x11
  | .boUnit1 => 0x12
  | .boUnit0 => 0x13
  | .senseWindow => 0x14
  | .sleepCfg => 0x15
  | .txFifoThr => 0x16
  | .rxFifoThr => 0x17
  | .gpioCfg n => 0x18 + n
  | .txFifoCount => 0x20
  | .rxFifoCount => 0x21
  | .rssiLevel => 0x22
  | .rxLen1 => 0x23
  | .rxLen0 => 0x24
  | .rxAddr => 0x25
  | .rxCtrl => 0x26
  | .rxResult => 0x27
  | .csmaResult => 0x28
  | .csmaAttempts => 0x29
  | .eventFlags1 => 0x2A
  | .eventFlags0 => 0x2B
  | .errFlags => 0x2C

theorem regAddr_of_regAt (n : Nat) (a : Byte) (r : Reg) (h : regAt n a = some r) : a.toNat = regAddr r := by
  unfold regAt at h
  split at h
  all_goals first
    | (cases h; assumption)
    | (split at h
       · cases h
         simp only [regAddr]
         omega
       · cases h)

/-- Two addresses name no one register (10_state.md R30). -/
theorem regAt_inj (n : Nat) (a b : Byte) (r : Reg) (ha : regAt n a = some r) (hb : regAt n b = some r) : a = b :=
  BitVec.eq_of_toNat_eq ((regAddr_of_regAt n a r ha).trans (regAddr_of_regAt n b r hb).symm)

/-- What a write to a mapped register can do (40_bus_transactions.md R142): nothing, CFG_ERR alone, or the store. -/
theorem writeReg_cases (a : Byte) (r : Reg) (v : Byte) (s : State) :
    writeReg a r v s = s ∧ regAccess r ≠ .rw ∨
      writeReg a r v s = setErr .cfgErr s ∧ regAccess r = .rw ∧
        (lockedAddr a = true ∧ busy s = true ∨ regLegal s.cfg.fifoCap r (v &&& regMask r) = false) ∨
      writeReg a r v s = storeReg r (v &&& regMask r) s ∧ regAccess r = .rw ∧
        (lockedAddr a = true → busy s = false) ∧ regLegal s.cfg.fifoCap r (v &&& regMask r) = true := by
  unfold writeReg
  split
  · rename_i hr
    split
    · rename_i h
      simp only [Bool.and_eq_true] at h
      exact .inr (.inl ⟨rfl, hr, .inl h⟩)
    · rename_i h
      simp only [Bool.and_eq_true, not_and, Bool.not_eq_true] at h
      split
      · rename_i hl
        exact .inr (.inr ⟨rfl, hr, h, hl⟩)
      · rename_i hl
        exact .inr (.inl ⟨rfl, hr, .inr (by simpa using hl)⟩)
  · rename_i hr
    exact .inl ⟨rfl, hr⟩

/-- The store of a masked value changes its register, and CFG_ERR where it rebinds an enabled pin (10_state.md R55). -/
theorem storeReg_eq (r : Reg) (v : Byte) (s : State) :
    storeReg r v s =
      { s with
        regs := regSet s.regs r v
        err := { s.err with cfgErr := s.err.cfgErr || rebinds r v s } } := by
  unfold storeReg
  cases rebinds r v s <;> simp [setErr, ErrFlags.raise]

/-- A push into the TX FIFO appends one byte, and only where there is room (40_bus_transactions.md R145). -/
theorem txFifoWrite_eq_some (b : Byte) (s t : State) :
    txFifoWrite b s = some t ↔ s.txFifo.length ≠ s.cfg.fifoCap ∧ t = { s with txFifo := s.txFifo ++ [b] } := by
  unfold txFifoWrite
  split
  · rename_i h
    simp [h]
  · rename_i h
    simp only [Option.some.injEq, ne_eq, h, not_false_eq_true, true_and]
    exact eq_comm

/-- A pop of the RX FIFO takes its head (40_bus_transactions.md R147). -/
theorem rxFifoRead_eq_some (b : Byte) (s t : State) :
    rxFifoRead s = some (b, t) ↔ ∃ rest, s.rxFifo = b :: rest ∧ t = { s with rxFifo := rest } := by
  unfold rxFifoRead
  cases h : s.rxFifo with
  | nil => simp
  | cons c rest =>
    simp only [Option.some.injEq, Prod.mk.injEq, List.cons.injEq]
    constructor
    · rintro ⟨rfl, rfl⟩
      exact ⟨rest, ⟨rfl, rfl⟩, rfl⟩
    · rintro ⟨rest', ⟨rfl, rfl⟩, rfl⟩
      exact ⟨rfl, rfl⟩

/-- A register read clears at most flags: everything else is kept (10_state.md R52, 40_bus_transactions.md R143). -/
theorem clearOnRead_eq (r : Reg) (s : State) :
    clearOnRead r s =
      { s with
        regs :=
          { s.regs with
            eventFlags1 := if r = .eventFlags1 then 0x00#8 else s.regs.eventFlags1
            eventFlags0 := if r = .eventFlags0 then 0x00#8 else s.regs.eventFlags0 }
        err := if r = .errFlags then ErrFlags.clear else s.err } := by
  cases r <;> rfl

/-- One written byte reaches only the registers, CFG_ERR and the TX FIFO (40_bus_transactions.md R142). -/
theorem regWriteByte_frame (a v : Byte) (s t : State) (h : regWriteByte a v s = some t) :
    t = { s with regs := t.regs, err := t.err, txFifo := t.txFifo } := by
  unfold regWriteByte at h
  split at h
  · rw [txFifoWrite_eq_some] at h
    rw [h.2]
  · split at h
    · cases h
      rfl
    · cases h
      rename_i r _
      rcases writeReg_cases a r v s with ⟨h, -⟩ | ⟨h, -⟩ | ⟨h, -⟩ <;> rw [h]
      · rfl
      · rw [storeReg_eq]

/-- One read byte reaches only the flag registers, the error flags, the RX FIFO and the count of free bytes
(40_bus_transactions.md R143). -/
theorem regReadByte_frame (a b : Byte) (s t : State) (h : regReadByte a s = some (b, t)) :
    t =
      { s with
        regs := { s.regs with eventFlags1 := t.regs.eventFlags1, eventFlags0 := t.regs.eventFlags0 }
        err := t.err
        rxFifo := t.rxFifo
        drawIndex := t.drawIndex } := by
  unfold regReadByte at h
  split at h
  · obtain ⟨rest, -, rfl⟩ := (rxFifoRead_eq_some b s t).1 h
    rfl
  · split at h
    · cases h
      rfl
    · cases h
      rw [clearOnRead_eq]

/-- The bytes of a write reach only the registers, CFG_ERR, the TX FIFO and, where a bound is broken, FAULTS
(40_bus_transactions.md R144). -/
theorem writeBytes_frame (d : Bytes) (a : Byte) (s : State) :
    writeBytes a d s =
      { s with
        regs := (writeBytes a d s).regs
        err := (writeBytes a d s).err
        txFifo := (writeBytes a d s).txFifo
        faults := (writeBytes a d s).faults } := by
  induction d generalizing a s with
  | nil => rfl
  | cons b ds ih =>
    rw [writeBytes]
    split
    · rfl
    · rename_i s1 h
      have h1 := regWriteByte_frame a b s s1 h
      have h2 := ih (nextAddr a) s1
      generalize writeBytes (nextAddr a) ds s1 = u at h2 ⊢
      rw [h1] at h2
      exact h2

/-- The bytes of a read reach only the flag registers, the error flags, the RX FIFO, the count of free bytes and, where a
bound is broken, FAULTS (40_bus_transactions.md R146). -/
theorem readBytes_frame (n : Nat) (a : Byte) (s : State) :
    (readBytes a n s).2 =
      { s with
        regs :=
          { s.regs with
            eventFlags1 := (readBytes a n s).2.regs.eventFlags1
            eventFlags0 := (readBytes a n s).2.regs.eventFlags0 }
        err := (readBytes a n s).2.err
        rxFifo := (readBytes a n s).2.rxFifo
        drawIndex := (readBytes a n s).2.drawIndex
        faults := (readBytes a n s).2.faults } := by
  induction n generalizing a s with
  | zero => rfl
  | succ n ih =>
    rw [readBytes]
    split
    · rfl
    · rename_i b s1 h
      have h1 := regReadByte_frame a b s s1 h
      have h2 := ih (nextAddr a) s1
      generalize readBytes (nextAddr a) n s1 = u at h2 ⊢
      rw [h1] at h2
      exact h2

/-- A write within its bounds is its bytes in order, answered with free bytes (40_bus_transactions.md R144). -/
theorem memWrite_of_fits (a : Byte) (d : Bytes) (s : State) (h : BurstFits a d.length s) :
    memWrite a d s = finishFree (statusBytes s) d.length (writeBytes a d s) := by
  simp only [memWrite, (burstCheck_eq_none a d.length s).2 h]

/-- A read within its bounds is its bytes in order, answered with what they read (40_bus_transactions.md R146). -/
theorem memRead_of_fits (a : Byte) (n : Nat) (s : State) (h : BurstFits a n s) :
    memRead a n s = finish (statusBytes s ++ (readBytes a n s).1) (readBytes a n s).2 := by
  simp only [memRead, (burstCheck_eq_none a n s).2 h]

/-- Away from the port the address of a burst advances by one (20_memory.md R73, R79). -/
theorem nextAddr_toNat (a : Byte) (h : a.toNat < 0xFF) : (nextAddr a).toNat = a.toNat + 1 := by
  have hp : a ≠ fifoPort := fun h' => by
    rw [h'] at h
    exact absurd h (by decide)
  simp only [nextAddr, hp, if_false, BitVec.toNat_add]
  show (a.toNat + 1) % 256 = _
  omega

/-! ## Engines -/

/-- Popping a payload byte (44_event_routing.md R324). -/
theorem txPop_cases (s : State) :
    txPop s = none ∧ s.txFifo = [] ∨
      ∃ b rest, s.txFifo = b :: rest ∧
        txPop s =
          some (b,
            if rest.length = s.regs.txFifoThr.toNat then signal .txFifoAlmostEmpty { s with txFifo := rest }
            else { s with txFifo := rest }) := by
  unfold txPop
  cases h : s.txFifo with
  | nil => simp
  | cons b rest => exact .inr ⟨b, rest, rfl, rfl⟩

/-- Emitting a byte ends the frame exactly at its last position (42_packet_engine.md R231, R233). -/
theorem txAdvance_cases (b : Byte) (s : State) :
    (s.tx.pos + 1 = txN s ∧
        txAdvance b s =
          txDone { s with airOut := s.airOut ++ [b], tx := { s.tx with pos := s.tx.pos + 1 } }) ∨
      s.tx.pos + 1 ≠ txN s ∧
        txAdvance b s = { s with airOut := s.airOut ++ [b], tx := { s.tx with pos := s.tx.pos + 1 } } := by
  unfold txAdvance
  dsimp only
  split
  · rename_i h
    exact .inl ⟨h, rfl⟩
  · rename_i h
    exact .inr ⟨h, rfl⟩

/-- Queueing a received payload byte (44_event_routing.md R324). -/
theorem rxPush_cases (b : Byte) (s : State) :
    rxPush b s =
      if s.rxFifo.length + 1 = s.regs.rxFifoThr.toNat then
        signal .rxFifoAlmostFull { s with rxFifo := s.rxFifo ++ [b] }
      else { s with rxFifo := s.rxFifo ++ [b] } := by
  simp [rxPush, rxThreshold]

/-- The end of a failed frame: the RX FIFO emptied, back in HUNT (42_packet_engine.md R248). -/
theorem failFrame_eq (s : State) : failFrame s = { s with rxFifo := [], rx := { s.rx with phase := .hunt } } := rfl

/-- The three ends of a frame that is complete (42_packet_engine.md R245). -/
theorem frameEnd_cases (s : State) :
    frameEnd s = failFrame (signal .crcError (setRxResult 2#8 s)) ∧ (frameCfgOf s).crcMode ≠ .none ∧
        s.rx.crcRecv ≠ s.rx.crcAcc ∨
      ((frameCfgOf s).crcMode = .none ∨ s.rx.crcRecv = s.rx.crcAcc) ∧
        (frameEnd s = failFrame (signal .rxFiltered (setRxResult 5#8 s)) ∧
            accepts (frameCfgOf s) s.regs.rxAddr = false ∨
          frameEnd s = acceptFrame s ∧
            ((frameCfgOf s).filtEn = true → accepts (frameCfgOf s) s.regs.rxAddr = true)) := by
  unfold frameEnd
  split
  · rename_i h
    exact .inl ⟨rfl, h.1, h.2⟩
  · rename_i h
    refine .inr ⟨by tauto, ?_⟩
    split
    · rename_i h'
      exact .inl ⟨rfl, h'.2⟩
    · rename_i h'
      exact .inr ⟨rfl, fun hf => by simpa [hf] using h'⟩

/-- The next phase is a present one after this, or the frame ends (42_packet_engine.md R238). -/
theorem advance_cases (p : RxPhase) (s : State) :
    (∃ q ∈ phasesAfter p, phasePresent s q = true ∧ advance p s = setRxPhase q s) ∨
      (∀ q ∈ phasesAfter p, phasePresent s q = false) ∧ advance p s = frameEnd s := by
  unfold advance
  split
  · rename_i q h
    exact .inl ⟨q, List.mem_of_find?_eq_some h, List.find?_some h, rfl⟩
  · rename_i h
    exact .inr ⟨fun q hq => by simpa using List.find?_eq_none.1 h q hq, rfl⟩

/-- The four ends of a sensing window (43_csma_engine.md R283). -/
theorem windowEnd_cases (k : Nat) (s : State) :
    windowEnd k s = channelIdle s ∧ s.csma.busySeen = false ∨
      s.csma.busySeen = true ∧
        (windowEnd k s = channelBusy s ∧ csmaPersist s.regs = false ∨
          csmaPersist s.regs = true ∧
            (windowEnd k s = maxRetries s ∧ s.regs.csmaAttempts = s.regs.csmaMaxRetry ∨
              windowEnd k s = startBackoff k s ∧ s.regs.csmaAttempts ≠ s.regs.csmaMaxRetry)) := by
  unfold windowEnd
  split
  · rename_i h
    exact .inl ⟨rfl, h⟩
  · rename_i h
    refine .inr ⟨by simpa using h, ?_⟩
    split
    · rename_i h
      exact .inl ⟨rfl, h⟩
    · rename_i h
      refine .inr ⟨by simpa using h, ?_⟩
      split
      · rename_i h
        exact .inl ⟨rfl, h⟩
      · rename_i h
        exact .inr ⟨rfl, h⟩

/-- A backoff waits a number of ticks within the bound, or senses again at once (43_csma_engine.md R285). -/
theorem startBackoff_cases (k : Nat) (s : State) :
    ∃ d < 2 ^ backoffExp s,
      (d * boUnit s.regs = 0 ∧
          startBackoff k s = beginAttempt { s with csma := { s.csma with phase := .backoff, ticksLeft := 0 } }) ∨
        d * boUnit s.regs ≠ 0 ∧
          startBackoff k s = { s with csma := { s.csma with phase := .backoff, ticksLeft := d * boUnit s.regs } } := by
  refine ⟨k % 2 ^ backoffExp s, Nat.mod_lt _ (Nat.two_pow_pos _), ?_⟩
  unfold startBackoff
  dsimp only
  split
  · rename_i h
    exact .inl ⟨h, by rw [h]⟩
  · rename_i h
    exact .inr ⟨h, rfl⟩

/-- A TX request in READY is refused for its length, or starts a CSMA run or the serializer (41_state_machine.md R181, R182). -/
theorem txStrobeInReady_cases (s : State) :
    txStrobeInReady s = setErr .cfgErr s ∧ ¬ LengthFits s ∨
      LengthFits s ∧
        (txStrobeInReady s = startCsma s ∧ csmaEn s.regs = true ∨
          txStrobeInReady s = startTx s ∧ csmaEn s.regs = false) := by
  unfold txStrobeInReady startTxOrCsma LengthFits
  split
  · rename_i h
    exact .inl ⟨rfl, by omega⟩
  · rename_i h
    refine .inr ⟨by omega, ?_⟩
    cases csmaEn s.regs <;> simp

/-- An RX request in READY is refused for its filter, or starts reception (41_state_machine.md R180). -/
theorem rxStrobeInReady_cases (s : State) :
    rxStrobeInReady s = setErr .cfgErr s ∧ (frameCfgOf s).filtEn = true ∧ (frameCfgOf s).addrEn = false ∨
      rxStrobeInReady s = startRx s ∧ ((frameCfgOf s).filtEn = true → (frameCfgOf s).addrEn = true) := by
  unfold rxStrobeInReady
  split
  · rename_i h
    exact .inl ⟨rfl, h⟩
  · rename_i h
    exact .inr ⟨rfl, fun hf => by simpa [hf] using h⟩

/-- A step of the CRC keeps the accumulator in its `W` low bits (42_packet_engine.md R223). -/
theorem crcBit_lt (m : CrcMode) (acc : BitVec 32) (b : Bool) : (crcBit m acc b).toNat < 2 ^ crcWidth m := by
  have hm : (crcMask m).toNat < 2 ^ crcWidth m := by cases m <;> decide
  have hp : (crcPoly m).toNat < 2 ^ crcWidth m := by cases m <;> decide
  have hs : ((acc <<< 1) &&& crcMask m).toNat < 2 ^ crcWidth m := by
    rw [BitVec.toNat_and]
    exact Nat.lt_of_le_of_lt Nat.and_le_right hm
  unfold crcBit
  dsimp only
  split
  · rw [BitVec.toNat_xor]
    exact Nat.xor_lt_two_pow hs hp
  · exact hs

/-- The CRC accumulator is a `W`-bit value after every byte (42_packet_engine.md R223). -/
theorem crcStep_lt (m : CrcMode) (acc : BitVec 32) (b : Byte) : (crcStep m acc b).toNat < 2 ^ crcWidth m := by
  simp only [crcStep, bitsMsbFirst, List.foldl_cons, List.foldl_nil]
  exact crcBit_lt m _ _

/-! ## Steps -/

/-- Every way a step can go on (00_scope.md R11): nothing is scheduled, or the first scheduled step is performed. -/
theorem step_cases (s t : State) (h : step s = .next t) :
    s.faults = [] ∧
      (s.input = [] ∧ t = s ∨
        ∃ e rest, s.input = e :: rest ∧
          ((∃ bytes i, e = .transaction bytes ∧ decode s.cfg.strobeCode bytes = .ok i ∧
              exec i { s with input := rest } = .next t) ∨
            (∃ bytes, e = .transaction bytes ∧ bytes.length < 2 ∧ t = { s with input := rest }) ∨
            (∀ bytes, e ≠ .transaction bytes) ∧ t = envStep e { s with input := rest })) := by
  unfold step at h
  split at h
  · cases h
  · rename_i hf
    refine ⟨(stuckFault_eq_none s).1 hf, ?_⟩
    unfold runNext at h
    split at h
    · rename_i hi
      cases h
      exact .inl ⟨hi, rfl⟩
    · rename_i e rest hi
      refine .inr ⟨e, rest, hi, ?_⟩
      unfold runInput at h
      split at h
      · rename_i bytes
        unfold runTransaction at h
        split at h
        · rename_i i hd
          exact .inl ⟨bytes, i, rfl, hd, h⟩
        · rename_i hd
          cases h
          refine .inr (.inl ⟨bytes, rfl, ?_, rfl⟩)
          match bytes, hd with
          | [], _ => decide
          | [_], _ => simp
      · rename_i hne
        cases h
        exact .inr (.inr ⟨fun bytes => hne bytes, rfl⟩)

end Sys2Proof.Machine
end

