-- ==== Sys2Proof/Laws/PerInstr.lean ====
section
/-! SUPPORT. The family `TransactionBytes`: an encoded instruction is a transaction, two bytes or more, whose first byte is the
header of its kind (30_encoding.md R102 to R106). One lemma for each constructor of `Instr`. -/

namespace Sys2Proof.Laws

open Sys2Proof

/-- The header byte of an instruction's kind (30_encoding.md R102). -/
def TransactionBytes.headerOf : Instr → Byte
  | .poll .write _ => 0x00#8
  | .poll .read _ => 0x01#8
  | .fifoWrite _ => 0x00#8
  | .write _ _ => 0x00#8
  | .burstWrite _ _ => 0x00#8
  | .fifoRead _ => 0x01#8
  | .read _ _ => 0x01#8
  | .burstRead _ _ => 0x01#8
  | .reservedHeader header _ _ => header
  | _ => 0x80#8

/-- Under every strobe code map an encoding has a header and a second byte at least (30_encoding.md R102, R103). -/
def TransactionBytes.Statement (i : Instr) : Prop :=
  ∀ m : StrobeCode, (encode m i).head? = some (TransactionBytes.headerOf i) ∧ 2 ≤ (encode m i).length

theorem TransactionBytes.poll (form : PollForm) (addr : Byte) :
    TransactionBytes.Statement (.poll form addr) := by
  cases form <;> exact fun _ => ⟨rfl, by simp [encode]⟩

theorem TransactionBytes.fifoWrite (data : Bytes) :
    TransactionBytes.Statement (.fifoWrite data) :=
  fun _ => ⟨rfl, by simp [encode]⟩

theorem TransactionBytes.write (addr : Byte) (datum : Byte) :
    TransactionBytes.Statement (.write addr datum) :=
  fun _ => ⟨rfl, by simp [encode]⟩

theorem TransactionBytes.burstWrite (addr : Byte) (data : Bytes) :
    TransactionBytes.Statement (.burstWrite addr data) :=
  fun _ => ⟨rfl, by simp [encode]⟩

theorem TransactionBytes.fifoRead (dummies : Bytes) :
    TransactionBytes.Statement (.fifoRead dummies) :=
  fun _ => ⟨rfl, by simp [encode]⟩

theorem TransactionBytes.read (addr : Byte) (dummy : Byte) :
    TransactionBytes.Statement (.read addr dummy) :=
  fun _ => ⟨rfl, by simp [encode]⟩

theorem TransactionBytes.burstRead (addr : Byte) (dummies : Bytes) :
    TransactionBytes.Statement (.burstRead addr dummies) :=
  fun _ => ⟨rfl, by simp [encode]⟩

theorem TransactionBytes.pwrup (tail : Bytes) :
    TransactionBytes.Statement (.pwrup tail) :=
  fun _ => ⟨rfl, by simp [encode, encodeStrobe]⟩

theorem TransactionBytes.sres (tail : Bytes) :
    TransactionBytes.Statement (.sres tail) :=
  fun _ => ⟨rfl, by simp [encode, encodeStrobe]⟩

theorem TransactionBytes.ready (tail : Bytes) :
    TransactionBytes.Statement (.ready tail) :=
  fun _ => ⟨rfl, by simp [encode, encodeStrobe]⟩

theorem TransactionBytes.standby (tail : Bytes) :
    TransactionBytes.Statement (.standby tail) :=
  fun _ => ⟨rfl, by simp [encode, encodeStrobe]⟩

theorem TransactionBytes.sleep (tail : Bytes) :
    TransactionBytes.Statement (.sleep tail) :=
  fun _ => ⟨rfl, by simp [encode, encodeStrobe]⟩

theorem TransactionBytes.rx (tail : Bytes) :
    TransactionBytes.Statement (.rx tail) :=
  fun _ => ⟨rfl, by simp [encode, encodeStrobe]⟩

theorem TransactionBytes.tx (tail : Bytes) :
    TransactionBytes.Statement (.tx tail) :=
  fun _ => ⟨rfl, by simp [encode, encodeStrobe]⟩

theorem TransactionBytes.sabort (tail : Bytes) :
    TransactionBytes.Statement (.sabort tail) :=
  fun _ => ⟨rfl, by simp [encode, encodeStrobe]⟩

theorem TransactionBytes.flushtx (tail : Bytes) :
    TransactionBytes.Statement (.flushtx tail) :=
  fun _ => ⟨rfl, by simp [encode, encodeStrobe]⟩

theorem TransactionBytes.flushrx (tail : Bytes) :
    TransactionBytes.Statement (.flushrx tail) :=
  fun _ => ⟨rfl, by simp [encode, encodeStrobe]⟩

theorem TransactionBytes.reservedStrobe (code : Byte) (tail : Bytes) :
    TransactionBytes.Statement (.reservedStrobe code tail) :=
  fun _ => ⟨rfl, by simp [encode, encodeStrobe]⟩

theorem TransactionBytes.reservedHeader (header : Byte) (second : Byte) (tail : Bytes) :
    TransactionBytes.Statement (.reservedHeader header second tail) :=
  fun _ => ⟨rfl, by simp [encode]⟩

end Sys2Proof.Laws
end

