-- ==== Sys2Proof/Tests/Slice0.lean ====
section
/-! SUPPORT. The writer's own tests: ill-formed terms are refused, the words of spec/30_encoding.md decode, the examples of
the rules come out as the spec gives them, and the hypotheses of each obligation can be met (`test_hyp_...`, one clause at a
time, at boundary values where a clause has a range). Expected values are the spec's, cited in each comment. -/

namespace Sys2Proof.Tests

open Sys2Proof Sys2Proof.Machine

/-! ## Small states -/

/-- Powered, registers at reset, in a given radio state. -/
def on (r : RadioState) : State :=
  { State.reset with powered := true, radio := r }

/-- The same with registers changed. -/
def withRegs (r : RadioState) (f : Regs → Regs) : State :=
  { on r with regs := f (Regs.reset 4) }

/-- The next state of an outcome. -/
def nextOf (o : Host.Outcome State Fault Refusal) : Option State :=
  match o with
  | .next t => some t
  | _ => none

/-- A CSMA run in a sensing window of two samples. -/
def sensing : State :=
  { withRegs .ready (fun g => { g with csmaCfg := 0x03#8, csmaAttempts := 0x01#8, senseWindow := 0x02#8 }) with
    csma := { active := true, phase := .sense, samplesLeft := 0x02#8, busySeen := false, ticksLeft := 0 } }

/-- A CSMA run in a backoff wait of two ticks. -/
def backingOff : State :=
  { sensing with csma := { active := true, phase := .backoff, samplesLeft := 0, busySeen := true, ticksLeft := 2 } }

/-- A receiver in a payload with its FIFO full. -/
def fullReceiver : State :=
  { on .rx with
    rxFifo := List.replicate 128 0x00#8
    rx := { RxEngine.reset with phase := .payload, payloadLeft := 2 } }

/-! ## WellFormed refuses -/

theorem test_wf_fifoWrite_empty : (Instr.fifoWrite []).wellFormed StrobeCode.default = false := by decide
theorem test_wf_write_port : (Instr.write 0xFF#8 0x00#8).wellFormed StrobeCode.default = false := by decide
theorem test_wf_burstWrite_port : (Instr.burstWrite 0xFF#8 [0x00#8, 0x00#8]).wellFormed StrobeCode.default = false := by decide
theorem test_wf_burstWrite_short : (Instr.burstWrite 0x00#8 [0x00#8]).wellFormed StrobeCode.default = false := by decide
theorem test_wf_fifoRead_empty : (Instr.fifoRead []).wellFormed StrobeCode.default = false := by decide
theorem test_wf_read_port : (Instr.read 0xFF#8 0x00#8).wellFormed StrobeCode.default = false := by decide
theorem test_wf_burstRead_port : (Instr.burstRead 0xFF#8 [0x00#8, 0x00#8]).wellFormed StrobeCode.default = false := by decide
theorem test_wf_burstRead_short : (Instr.burstRead 0x00#8 []).wellFormed StrobeCode.default = false := by decide
theorem test_wf_reservedStrobe_defined :
    [0x60#8, 0x61#8, 0x62#8, 0x63#8, 0x64#8, 0x67#8, 0x70#8, 0x71#8, 0x72#8, 0x7E#8].all
      (fun c => !(Instr.reservedStrobe c []).wellFormed StrobeCode.default) = true := by decide
theorem test_wf_reservedHeader_defined :
    [0x00#8, 0x01#8, 0x80#8].all (fun h => !(Instr.reservedHeader h 0x00#8 []).wellFormed StrobeCode.default) = true := by decide

/-- A map that gives two strobes one code is no legal parameter (00_scope.md R3, R7). -/
theorem test_config_legal :
    Config.default.legal = true ∧
      { Config.default with strobeCode := { StrobeCode.default with pwrup := 0x60#8 } }.legal = false := by decide

/-! ## Decoding, words written from 30_encoding.md R104, R105, R106, R112 and spec/opcode_table.json -/

theorem test_dec_poll : decode StrobeCode.default [0b00000000#8, 0x00#8] = .ok (.poll .write 0x00#8) := by decide
theorem test_dec_poll_read : decode StrobeCode.default [0b00000001#8, 0x2C#8] = .ok (.poll .read 0x2C#8) := by decide
theorem test_dec_fifoWrite :
    decode StrobeCode.default [0x00#8, 0xFF#8, 0xDE#8, 0xAD#8] = .ok (.fifoWrite [0xDE#8, 0xAD#8]) := by decide
theorem test_dec_write : decode StrobeCode.default [0x00#8, 0x0F#8, 0x35#8] = .ok (.write 0x0F#8 0x35#8) := by decide
theorem test_dec_burstWrite :
    decode StrobeCode.default [0x00#8, 0x07#8, 0x00#8, 0x04#8] = .ok (.burstWrite 0x07#8 [0x00#8, 0x04#8]) := by decide
theorem test_dec_fifoRead : decode StrobeCode.default [0x01#8, 0xFF#8, 0x00#8] = .ok (.fifoRead [0x00#8]) := by decide
theorem test_dec_read : decode StrobeCode.default [0x01#8, 0x2B#8, 0x00#8] = .ok (.read 0x2B#8 0x00#8) := by decide
theorem test_dec_burstRead :
    decode StrobeCode.default [0x01#8, 0x2A#8, 0x00#8, 0x00#8, 0x00#8] =
      .ok (.burstRead 0x2A#8 [0x00#8, 0x00#8, 0x00#8]) := by decide
theorem test_dec_pwrup : decode StrobeCode.default [0b10000000#8, 0b01111110#8] = .ok (.pwrup []) := by decide
theorem test_dec_sres : decode StrobeCode.default [0b10000000#8, 0b01110000#8] = .ok (.sres []) := by decide
theorem test_dec_ready : decode StrobeCode.default [0b10000000#8, 0b01100010#8] = .ok (.ready []) := by decide
theorem test_dec_standby : decode StrobeCode.default [0b10000000#8, 0b01100011#8] = .ok (.standby []) := by decide
theorem test_dec_sleep : decode StrobeCode.default [0b10000000#8, 0b01100100#8] = .ok (.sleep []) := by decide
theorem test_dec_rx : decode StrobeCode.default [0b10000000#8, 0b01100001#8] = .ok (.rx []) := by decide
theorem test_dec_tx : decode StrobeCode.default [0b10000000#8, 0b01100000#8] = .ok (.tx []) := by decide
theorem test_dec_sabort : decode StrobeCode.default [0b10000000#8, 0b01100111#8] = .ok (.sabort []) := by decide
theorem test_dec_flushtx : decode StrobeCode.default [0b10000000#8, 0b01110010#8] = .ok (.flushtx []) := by decide
theorem test_dec_flushrx : decode StrobeCode.default [0b10000000#8, 0b01110001#8, 0x55#8] = .ok (.flushrx [0x55#8]) := by decide
theorem test_dec_reservedStrobe : decode StrobeCode.default [0x80#8, 0x65#8] = .ok (.reservedStrobe 0x65#8 []) := by decide
theorem test_dec_reservedHeader : decode StrobeCode.default [0x02#8, 0x00#8] = .ok (.reservedHeader 0x02#8 0x00#8 []) := by decide
/-- U26: under another code map 0x65 is PWRUP and 0x7E is reserved. -/
theorem test_dec_other_codes :
    decode { StrobeCode.default with pwrup := 0x65#8 } [0x80#8, 0x65#8] = .ok (.pwrup []) ∧
      decode { StrobeCode.default with pwrup := 0x65#8 } [0x80#8, 0x7E#8] = .ok (.reservedStrobe 0x7E#8 []) := by decide
theorem test_dec_short : decode StrobeCode.default [0x80#8] = .error .tooShort := by decide

/-- The "match" words of spec/opcode_table.json for the strobe rows. -/
theorem test_table_strobes :
    [0x807E, 0x8070, 0x8062, 0x8063, 0x8064, 0x8061, 0x8060, 0x8067, 0x8072, 0x8071].map (decodeTableWord 16) =
      [some (.pwrup []), some (.sres []), some (.ready []), some (.standby []), some (.sleep []), some (.rx []),
        some (.tx []), some (.sabort []), some (.flushtx []), some (.flushrx [])] := by decide
theorem test_table_write : decodeTableWord 24 0x35000F = some (.write 0x0F#8 0x35#8) := by decide
theorem test_table_read : decodeTableWord 16 0x012C = some (.read 0x2C#8 0x00#8) := by decide
theorem test_table_fifoWrite : decodeTableWord 16 0x00FF = some (.fifoWrite [0x00#8]) := by decide
theorem test_withFetchWord :
    ((nextOf (step (State.reset.withFetchWord 16 0x807E))).map (·.radio)) = some .standby := by decide

/-! ## One transaction: the rules' own examples -/

/-- R148: after READY in STANDBY, POLL returns STATE = 4; R29: bits 6 and 4 tell empty FIFOs. -/
theorem test_poll_locking :
    (nextOf (exec (.poll .write 0x00#8) (on .locking))).map (·.reply) = some [0x00#8, 0x54#8] := by decide

/-- R149: in SHUTDOWN the status is 0x00 0x00. -/
theorem test_poll_shutdown :
    (nextOf (exec (.poll .read 0x00#8) State.reset)).map (·.reply) = some [0x00#8, 0x00#8] := by decide

/-- R145: the bytes DE AD BE EF are queued with DE first. -/
theorem test_fifoWrite :
    (nextOf (exec (.fifoWrite [0xDE#8, 0xAD#8, 0xBE#8, 0xEF#8]) (on .ready))).map (·.txFifo) =
      some [0xDE#8, 0xAD#8, 0xBE#8, 0xEF#8] := by decide

/-- R78: a byte for a full TX FIFO records FIFO_BOUNDS. -/
theorem test_fifoWrite_full :
    (nextOf (exec (.fifoWrite [0x01#8]) { on .ready with txFifo := List.replicate 128 0x00#8 })).map (·.faults) =
      some [(.fifoBounds, 0)] := by decide +kernel

/-- R144: MIN_BE 5 above MAX_BE 3 is rejected with CFG_ERR. -/
theorem test_write_rejected :
    (nextOf (exec (.write 0x0F#8 0x35#8) (on .ready))).map (fun t => (t.regs.csmaBe, t.err.cfgErr)) =
      some (0x50#8, true) := by decide

/-- R142: MASK drops the reserved bits of PKT_CFG0. -/
theorem test_write_masked :
    (nextOf (exec (.write 0x00#8 0xDB#8) (on .standby))).map (fun t => (t.regs.pktCfg0, t.err.cfgErr)) =
      some (0x1B#8, false) := by decide

/-- R108, R144: the CSMA registers are written from 0x0E on; each byte of a burst is stored on its own. -/
theorem test_burstWrite :
    (nextOf (exec (.burstWrite 0x0E#8 [0x03#8, 0x53#8, 0x00#8, 0x70#8]) (on .ready))).map
        (fun t => (t.regs.csmaCfg, t.regs.csmaBe, t.regs.csmaMaxRetry, t.regs.rssiThresh, t.err.cfgErr)) =
      some (0x03#8, 0x53#8, 0x04#8, 0x70#8, true) := by decide

/-- R79: a burst from 0xFE would run into the port. -/
theorem test_burstWrite_range :
    (nextOf (exec (.burstWrite 0xFE#8 [0x00#8, 0x00#8]) (on .ready))).map (·.faults) =
      some [(.burstRange, 0)] := by decide

/-- R147: FIFO_READ pops in order. -/
theorem test_fifoRead :
    (nextOf (exec (.fifoRead [0x00#8, 0x00#8]) { on .ready with rxFifo := [0xDE#8, 0xAD#8, 0xBE#8] })).map
        (fun t => (t.reply.drop 2, t.rxFifo)) = some ([0xDE#8, 0xAD#8], [0xBE#8]) := by decide

/-- R78: a byte read from an empty RX FIFO records FIFO_BOUNDS. -/
theorem test_fifoRead_empty :
    (nextOf (exec (.fifoRead [0x00#8]) (on .ready))).map (·.faults) = some [(.fifoBounds, 0)] := by decide

/-- R146: RD 0x2B returns 0x02 after TX_DONE and clears it. -/
theorem test_read_flags :
    (nextOf (exec (.read 0x2B#8 0x00#8) (withRegs .ready (fun g => { g with eventFlags0 := 0x02#8 })))).map
        (fun t => (t.reply.drop 2, t.regs.eventFlags0)) = some ([0x02#8], 0x00#8) := by decide

/-- R52: ERR_FLAGS reads CFG_ERR in bit 4, TX_UNDERFLOW in bit 0, and clears them. -/
theorem test_read_errFlags :
    (nextOf (exec (.read 0x2C#8 0x00#8) { on .ready with err := ⟨true, false, false, false, true⟩ })).map
        (fun t => (t.reply, t.err)) = some ([0x88#8, 0x53#8, 0x11#8], ErrFlags.clear) := by decide

/-- V-RST-2: the reset values of 0x00 to 0x06 (10_state.md R30). -/
theorem test_burstRead_reset :
    (nextOf (exec (.burstRead 0x00#8 (List.replicate 7 0x00#8)) (on .standby))).map (·.reply) =
      some [0x00#8, 0x51#8, 0x13#8, 0x04#8, 0x04#8, 0x88#8, 0x88#8, 0x88#8, 0x88#8] := by decide

/-- R170, R392: after PWRUP the status is 0x0051. -/
theorem test_pwrup : (nextOf (exec (.pwrup []) State.reset)).map statusWord = some 0x0051#16 := by decide

/-- R170: PWRUP while powered sets CMD_ERR. -/
theorem test_pwrup_powered :
    (nextOf (exec (.pwrup []) (on .ready))).map (fun t => (t.radio, t.err.cmdErr)) = some (.ready, true) := by decide

/-- R172: SRES in RX with 3 bytes in the RX FIFO leaves status 0x0051. -/
theorem test_sres :
    (nextOf (exec (.sres []) { on .rx with rxFifo := [0x01#8, 0x02#8, 0x03#8] })).map statusWord =
      some 0x0051#16 := by decide

/-- R173: STANDBY to LOCKING; refused in TX. -/
theorem test_ready : (nextOf (exec (.ready []) (on .standby))).map (·.radio) = some .locking := by decide
theorem test_ready_refused : (nextOf (exec (.ready []) (on .tx))).map (·.err.cmdErr) = some true := by decide

/-- R174: READY to STANDBY. -/
theorem test_standby : (nextOf (exec (.standby []) (on .ready))).map (·.radio) = some .standby := by decide
theorem test_standby_refused :
    (nextOf (exec (.standby []) (on .sleep))).map (fun t => (t.radio, t.err.cmdErr)) = some (.sleep, true) := by decide

/-- R175: with FIFO_RETAIN = 0 the TX FIFO is lost, with 1 it is kept. -/
theorem test_sleep :
    (nextOf (exec (.sleep []) { on .ready with txFifo := [0x01#8] })).map (fun t => (t.radio, t.txFifo)) =
      some (.sleep, []) := by decide
theorem test_sleep_retain :
    (nextOf (exec (.sleep [])
        { withRegs .ready (fun g => { g with sleepCfg := 0x01#8 }) with txFifo := [0x01#8] })).map (·.txFifo) =
      some [0x01#8] := by decide

/-- R180: FILT_EN without ADDR_EN is refused with CFG_ERR. -/
theorem test_rx_refused :
    (nextOf (exec (.rx []) (withRegs .ready (fun g => { g with filterCfg := 0x01#8 })))).map
        (fun t => (t.radio, t.err.cfgErr)) = some (.ready, true) := by decide
theorem test_rx : (nextOf (exec (.rx []) (on .ready))).map statusWord = some 0x0055#16 := by decide

/-- R181: 254 + 2 is above 255, so TX is refused with CFG_ERR. -/
theorem test_tx_refused :
    (nextOf (exec (.tx [])
        (withRegs .ready (fun g => { g with pktCfg0 := 0x1B#8, pktLen0 := 0xFE#8 })))).map
        (fun t => (t.radio, t.err.cfgErr)) = some (.ready, true) := by decide

/-- R280: with CSMA on the state stays READY, CSMA_ACTIVE = 1, CSMA_ATTEMPTS = 1. -/
theorem test_tx_csma :
    (nextOf (exec (.tx []) (withRegs .ready (fun g => { g with csmaCfg := 0x03#8 })))).map
        (fun t => (t.radio, t.csma.active, t.regs.csmaAttempts)) = some (.ready, true, 0x01#8) := by decide

/-- R176: SABORT in backoff gives CSMA_RESULT 4 in READY; in TX the FIFO is emptied. -/
theorem test_sabort_csma :
    (nextOf (exec (.sabort []) backingOff)).map (fun t => (t.radio, t.regs.csmaResult, t.csma.active)) =
      some (.ready, 0x04#8, false) := by decide
theorem test_sabort_tx :
    (nextOf (exec (.sabort []) { on .tx with txFifo := [0x01#8] })).map
        (fun t => (t.radio, t.txFifo, t.regs.eventFlags1)) = some (.ready, [], 0x20#8) := by decide

/-- R177, R178. -/
theorem test_flushtx :
    (nextOf (exec (.flushtx []) { on .ready with txFifo := [0x01#8] })).map (·.txFifo) = some [] := by decide
theorem test_flushtx_refused :
    (nextOf (exec (.flushtx []) { on .tx with txFifo := [0x01#8] })).map (fun t => (t.txFifo, t.err.cmdErr)) =
      some ([0x01#8], true) := by decide
theorem test_flushrx :
    (nextOf (exec (.flushrx []) { on .rx with rxFifo := [0x01#8] })).map (·.rxFifo) = some [] := by decide

/-- R179: STROBE 0x65 in READY sets CMD_ERR; R150: H = 0x02 in READY sets CMD_ERR, not yet shown in its own status. -/
theorem test_reservedStrobe :
    (nextOf (exec (.reservedStrobe 0x65#8 []) (on .ready))).map (fun t => (t.radio, t.err.cmdErr)) =
      some (.ready, true) := by decide
theorem test_reservedHeader :
    (nextOf (exec (.reservedHeader 0x02#8 0x00#8 []) (on .ready))).map (fun t => (t.reply, t.err.cmdErr)) =
      some ([0x00#8, 0x53#8], true) := by decide

/-! ## The packet engine's vectors -/

/-- R223: the check value of mode 3 is 0x29B1. -/
theorem test_crc16 :
    [0x31#8, 0x32#8, 0x33#8, 0x34#8, 0x35#8, 0x36#8, 0x37#8, 0x38#8, 0x39#8].foldl (crcStep .crc16x1021) 0xFFFF#32 =
      0x29B1#32 := by decide +kernel

/-- V-ENC-1 (R225): the source's scenario frame. -/
theorem test_encode_vector :
    encodeFrame (frameCfg Config.default { Regs.reset 4 with pktCfg0 := 0x1B#8 })
        [0xDE#8, 0xAD#8, 0xBE#8, 0xEF#8] 0x12#8 0x00#8 =
      some [0xAA#8, 0xAA#8, 0xAA#8, 0xAA#8, 0x88#8, 0x88#8, 0x88#8, 0x88#8, 0x06#8, 0x12#8, 0x00#8, 0xDE#8, 0xAD#8, 0xBE#8,
        0xEF#8, 0x05#8, 0x78#8] := by decide +kernel

/-- R284: the last idle sample of a window hands off to TX in the same step. -/
theorem test_channel_idle :
    (nextOf (step { sensing with csma := { sensing.csma with samplesLeft := 1 }, input := [.csmaSample 0x80#8 0] })).map
        (fun t => (t.radio, t.regs.csmaResult)) = some (.tx, 0x01#8) := by decide

/-- R234: a payload byte due with the FIFO empty underflows. -/
theorem test_underflow :
    (nextOf (step { withRegs .tx (fun g => { g with pktLen0 := 0x04#8 }) with
        tx := { pos := 12, crcAcc := 0 }, input := [.txEmit] })).map (fun t => (t.radio, t.err.txUnderflow, t.airOut)) =
      some (.ready, true, []) := by decide

/-! ## The hypotheses of the obligations can be met -/

/-- PowerOnStateAndPinLevels on a powered chip, at each value of EN and EDGE (10_state.md R57). -/
theorem test_hyp_PowerOnStateAndPinLevels :
    let s := withRegs .ready (fun g => { g with gpioCfg := [0x12#8, 0x11#8, 0x13#8, 0x10#8] })
    s.powered = true ∧ State.reset.powered = false ∧ s.regs.gpioCfg[2]? = some 0x13#8 ∧
      (List.range 4).map (fun n => pinLevel n s) = [false, false, true, false] ∧
      [1, 2].map (fun n => pinActiveLevel n s) = [true, false] := by decide

/-- The register clause of SerializerEmitsTheEncodedFrame, at the limits of CRC_MODE. -/
theorem test_hyp_SerializerEmitsTheEncodedFrame_config :
    (0x3D#8 : Byte).toNat % 8 ≤ 5 ∧ (0x00#8 : Byte).toNat % 8 ≤ 5 ∧
      (frameCfg Config.default { Regs.reset 4 with pktCfg0 := 0x25#8 }).crcMode = .crc32 ∧
      (frameCfg Config.default { Regs.reset 4 with pktCfg0 := 0x25#8 }).lenWide = true ∧
      (frameCfg Config.default { Regs.reset 4 with pktCfg0 := 0x25#8 }).ctrlEn = false := by decide

theorem test_hyp_DecodeOfEncodeIsIdentity :
    StrobeCode.default.distinct = true ∧
      [Instr.poll .read 0xFF#8, .fifoWrite [0x00#8], .write 0xFE#8 0x00#8, .burstWrite 0xFE#8 [0x00#8, 0x01#8],
      .fifoRead [0x00#8], .read 0x00#8 0x00#8, .burstRead 0x00#8 [0x00#8, 0x00#8], .pwrup [], .sres [], .ready [],
      .standby [], .sleep [], .rx [], .tx [], .sabort [], .flushtx [], .flushrx [], .reservedStrobe 0x65#8 [],
      .reservedHeader 0xFF#8 0x00#8 []].all (Instr.wellFormed StrobeCode.default) = true := by decide

theorem test_hyp_EncodeOfDecodeIsIdentity :
    decode StrobeCode.default [0x02#8, 0x00#8, 0x01#8] = .ok (.reservedHeader 0x02#8 0x00#8 [0x01#8]) := by decide

theorem test_hyp_StepRunsTheDecodedTransaction :
    ∃ (s : State) (bytes : Bytes) (rest : List Input) (i : Instr),
      s.faults = [] ∧ s.input = .transaction bytes :: rest ∧ decode s.cfg.strobeCode bytes = .ok i :=
  ⟨{ State.reset with input := [.transaction [0x80#8, 0x7E#8]] }, [0x80#8, 0x7E#8], [], .pwrup [], rfl, rfl, by decide⟩

theorem test_hyp_StepPerformsOtherInputs :
    (∃ (s : State) (e : Input) (rest : List Input),
      s.faults = [] ∧ s.input = e :: rest ∧ (∀ bytes, e ≠ .transaction bytes) ∧ inputEnabled e s = true) ∧
      (∃ (s : State) (e : Input) (rest : List Input),
        s.faults = [] ∧ s.input = e :: rest ∧ (∀ bytes, e ≠ .transaction bytes) ∧ inputEnabled e s = false) ∧
      (∃ (s : State) (bytes : Bytes) (rest : List Input),
        s.faults = [] ∧ s.input = .transaction bytes :: rest ∧ bytes.length = 1) ∧
      ∃ s : State, s.faults = [] ∧ s.input = [] :=
  ⟨⟨{ on .tx with input := [.txEmit] }, .txEmit, [], rfl, rfl, nofun, by decide⟩,
    ⟨{ on .rx with input := [.txEmit] }, .txEmit, [], rfl, rfl, nofun, by decide⟩,
    ⟨{ State.reset with input := [.transaction [0x80#8]] }, [0x80#8], [], rfl, rfl, rfl⟩, ⟨State.reset, rfl, rfl⟩⟩

theorem test_hyp_FaultedRunIsStuck : ∃ s : State, s.faults = (.burstRange, 3) :: [] :=
  ⟨{ State.reset with faults := [(.burstRange, 3)] }, rfl⟩

/-- For PollReturnsTheSnapshot and, with any `tail`, SresResetsEverything (with legal parameters), ReadyStrobe, StandbyStrobe,
SleepStrobe, RxStrobe, TxStrobe, SabortStrobe and FlushStrobes: their only hypothesis, in every radio state their cases name. -/
theorem test_hyp_Live :
    Live (on .standby) ∧ Live (on .sleep) ∧ Live (on .ready) ∧ Live sensing ∧ Live (on .locking) ∧ Live (on .rx) ∧
      Live fullReceiver ∧ Live (on .tx) ∧ (on .tx).cfg.legal = true ∧ State.reset.powered = false := by decide

theorem test_hyp_UnpoweredTransactionsDoNothing :
    State.reset.faults = [] ∧ State.reset.powered = false ∧ ∀ tail, Instr.read 0x0C#8 0x00#8 ≠ .pwrup tail :=
  ⟨rfl, rfl, nofun⟩

/-- The last clauses of WriteStoresTheMaskedValue and ReadReturnsTheRegister take a mapped address. -/
theorem test_hyp_mapped_addresses :
    regAt 4 0x1F#8 = none ∧ regAt 8 0x1F#8 = some (.gpioCfg 7) ∧ regAccess (.gpioCfg 7) = .rw ∧
      regAt 4 0x20#8 = some .txFifoCount ∧ regAccess .txFifoCount = .ro ∧ regAt 4 0x2A#8 = some .eventFlags1 ∧
      regAccess .eventFlags1 = .rc ∧ Reg.sync0 ∉ [Reg.txFifoCount, .rxFifoCount, .errFlags] := by decide

/-- R142 at its boundaries: both sides of each limit. -/
theorem test_legal_boundaries :
    [regLegal 64 .pktCfg0 0x3D#8, regLegal 64 .syncLen 0x04#8, regLegal 64 .csmaBe 0x55#8, regLegal 64 .txFifoThr 0x3F#8,
        regLegal 64 .rxFifoThr 0x40#8, regLegal 64 (.gpioCfg 0) 0x79#8, regLegal 64 (.gpioCfg 0) 0xF8#8].all id = true ∧
      [regLegal 64 .pktCfg0 0x3E#8, regLegal 64 .syncLen 0x05#8, regLegal 64 .syncLen 0x00#8, regLegal 64 .csmaBe 0x56#8,
        regLegal 64 .txFifoThr 0x40#8, regLegal 64 .rxFifoThr 0x41#8, regLegal 64 .rxFifoThr 0x00#8,
        regLegal 64 (.gpioCfg 0) 0x81#8, regLegal 64 (.gpioCfg 0) 0x01#8].any id = false := by decide

theorem test_hyp_WriteStoresTheMaskedValue :
    (Live (on .ready) ∧ 0x00#8 ≠ 0xFF#8 ∧ BurstFits 0x00#8 1 (on .ready) ∧ regAt 4 0x00#8 = some .pktCfg0 ∧
        regAccess .pktCfg0 = .rw ∧ ¬ ((0x00#8 : Byte).toNat ≤ 0x14 ∧ busy (on .ready) = true) ∧
        regLegal 128 .pktCfg0 (0xC5#8 &&& regMask .pktCfg0) = true) ∧
      (Live (on .tx) ∧ BurstFits 0x1B#8 1 (on .tx) ∧ regAt 4 0x1B#8 = some (.gpioCfg 3) ∧
        regAccess (.gpioCfg 3) = .rw ∧ ¬ ((0x1B#8 : Byte).toNat ≤ 0x14 ∧ busy (on .tx) = true) ∧
        regLegal 128 (.gpioCfg 3) (0x79#8 &&& regMask (.gpioCfg 3)) = true) := by decide

theorem test_hyp_WrittenRegisterReadsBack :
    regAccess (.gpioCfg 3) = .rw ∧ 3 < (Regs.reset 4).gpioCfg.length ∧ Reg.gpioCfg 2 ≠ .gpioCfg 3 ∧
      regAccess .pktCfg0 = .rw ∧ Reg.errFlags ≠ .pktCfg0 := by decide

theorem test_hyp_BusyLockRejectsConfigurationWrites :
    (Live sensing ∧ busy sensing = true ∧ BurstFits 0x14#8 1 sensing ∧ (0x14#8 : Byte).toNat ≤ 0x14) ∧
      (BurstFits 0x00#8 1 (on .locking) ∧ busy (on .locking) = true) ∧
      (0x15 ≤ (0x15#8 : Byte).toNat ∧ regAt 4 0x15#8 = some .sleepCfg ∧
        regLegal 128 .sleepCfg (0xFF#8 &&& regMask .sleepCfg) = true) ∧
      ((0x1F#8 : Byte).toNat ≤ 0x1F ∧ regAt 8 0x1F#8 = some (.gpioCfg 7) ∧
        regLegal 128 (.gpioCfg 7) (0x00#8 &&& regMask (.gpioCfg 7)) = true) := by decide

theorem test_hyp_IllegalWriteIsRejectedWhole :
    Live (on .ready) ∧ 0x0F#8 ≠ 0xFF#8 ∧ BurstFits 0x0F#8 1 (on .ready) ∧ regAt 4 0x0F#8 = some .csmaBe ∧
      regAccess .csmaBe = .rw ∧ regLegal 128 .csmaBe (0x35#8 &&& regMask .csmaBe) = false := by decide

theorem test_hyp_UnmappedAndReadOnlyAccesses :
    (0x18 + 4 ≤ (0x1C#8 : Byte).toNat ∧ (0x1F#8 : Byte).toNat ≤ 0x1F) ∧
      (0x2D ≤ (0x2D#8 : Byte).toNat ∧ (0xFE#8 : Byte).toNat ≤ 0xFE) ∧
      (Live (on .ready) ∧ 0x2D#8 ≠ 0xFF#8 ∧ BurstFits 0x2D#8 1 (on .ready) ∧ regAt 4 0x2D#8 = none) ∧
      (BurstFits 0xFE#8 1 (on .ready) ∧ regAt 4 0xFE#8 = none ∧ regAt 4 0x1C#8 = none) ∧
      (regAt 4 0x20#8 = some .txFifoCount ∧ regAccess .txFifoCount ≠ .rw) ∧
      (regAt 4 0x2C#8 = some .errFlags ∧ regAccess .errFlags ≠ .rw) := by decide

theorem test_hyp_ReadReturnsTheRegister :
    Live (on .ready) ∧ 0x2C#8 ≠ 0xFF#8 ∧ BurstFits 0x2C#8 1 (on .ready) ∧ regAt 4 0x2C#8 = some .errFlags ∧
      BurstFits 0x00#8 1 (on .ready) ∧ regAt 4 0x00#8 = some .pktCfg0 ∧ regAccess .pktCfg0 ≠ .rc := by decide

theorem test_hyp_FlagReadClearsWhatItReturns : Live (on .ready) ∧ BurstFits 0x2A#8 3 (on .ready) := by decide

/-- For BurstReadReturnsEachRegister and BurstWriteActsOnEachAddress, also at the last burst below the port. -/
theorem test_hyp_bursts :
    Live (on .ready) ∧ 0x2A#8 ≠ 0xFF#8 ∧ BurstFits 0x2A#8 3 (on .ready) ∧ 0xFD#8 ≠ 0xFF#8 ∧
      BurstFits 0xFD#8 2 (on .ready) := by decide

theorem test_hyp_FifoTransfersInOrder :
    ∃ s : State, Live s ∧ BurstFits 0xFF#8 2 s ∧ s.txFifo.length + 2 = s.cfg.fifoCap ∧ 2 = s.rxFifo.length :=
  ⟨{ on .ready with txFifo := List.replicate 126 0x00#8, rxFifo := [0x00#8, 0x01#8] }, by decide +kernel⟩

theorem test_hyp_FifoBoundsViolationIsRecorded :
    ∃ s : State, Live s ∧ BurstFits 0xFF#8 2 s ∧ s.txFifo.length ≤ s.cfg.fifoCap ∧
      s.cfg.fifoCap < s.txFifo.length + 2 ∧ s.rxFifo.length < 2 :=
  ⟨{ on .ready with txFifo := List.replicate 127 0x00#8, rxFifo := [0x00#8] }, by decide +kernel⟩

theorem test_hyp_BurstBoundsViolationIsRecorded :
    (∃ s : State, Live s ∧ 2 ≤ 3 ∧ ∃ m, s.cfg.maxBurst = some m ∧ m < 3) ∧
      ∃ s : State, Live s ∧ (∀ m ∈ s.cfg.maxBurst, 2 ≤ m) ∧ 0xFE#8 ≠ 0xFF#8 ∧ 0xFE < (0xFE#8 : Byte).toNat + 2 - 1 :=
  ⟨⟨{ on .ready with cfg := { Config.default with maxBurst := some 2 } }, by decide, by decide, 2, rfl, by decide⟩,
    ⟨on .ready, by decide, by decide, by decide, by decide⟩⟩

theorem test_hyp_ReservedCodesSetCmdErr :
    Live (on .ready) ∧ (0x65#8 : Byte).toNat ∉ [0x60, 0x61, 0x62, 0x63, 0x64, 0x67, 0x70, 0x71, 0x72, 0x7E] ∧
      0x02#8 ≠ 0x00#8 ∧ 0x02#8 ≠ 0x01#8 ∧ 0x02#8 ≠ 0x80#8 := by decide

theorem test_hyp_PwrupPowersUpOnce :
    State.reset.faults = [] ∧ State.reset.powered = false ∧ (on .ready).faults = [] ∧ (on .ready).powered = true := by
  decide

theorem test_hyp_StrobeLegalityTable :
    Live (on .locking) ∧ PowerInv (on .locking) ∧ legalityCell (.tx []) (on .locking) = some .pendTx ∧
      PowerInv sensing ∧ legalityCell (.sabort []) sensing = some .endCsma := by decide

theorem test_hyp_LockResults :
    ∃ s : State, s.faults = [] ∧ s.radio = .locking ∧ s.input = .lockResult true :: [] ∧ s.pending = .tx :=
  ⟨{ on .locking with pending := .tx, input := [.lockResult true] }, rfl, rfl, rfl, rfl⟩

theorem test_hyp_LockResults_failure :
    ∃ s : State, s.faults = [] ∧ s.radio = .locking ∧ s.input = .lockResult false :: [] :=
  ⟨{ on .locking with input := [.lockResult false] }, rfl, rfl, rfl⟩

theorem test_hyp_EnteringReadyIsSignalled :
    ∃ s t : State, step s = .next t ∧ s.radio ≠ .ready ∧ t.radio = .ready :=
  ⟨{ on .locking with input := [.lockResult true] }, _, rfl, by decide, rfl⟩

theorem test_hyp_SerializerEmitsTheEncodedFrame :
    ∃ s : State, s.faults = [] ∧ s.radio = .tx ∧ s.tx = { pos := 0, crcAcc := crcStart (frameCfgOf s) } ∧ LengthFits s ∧
      pktLen s.regs ≤ s.txFifo.length ∧ s.input = List.replicate (txN s) .txEmit ++ [] :=
  ⟨{ withRegs .tx (fun g => { g with pktLen0 := 0x01#8 }) with
      txFifo := [0x55#8], tx := { pos := 0, crcAcc := 0xFFFF#32 }, input := List.replicate 13 .txEmit },
    by decide, by decide, by decide, by decide, by decide, by decide⟩

theorem test_hyp_SerializerUnderflow :
    ∃ s : State, s.faults = [] ∧ s.radio = .tx ∧ txP0 s ≤ s.tx.pos ∧ s.tx.pos < txC0 s ∧ s.txFifo = [] ∧
      s.input = .txEmit :: [] :=
  ⟨{ withRegs .tx (fun g => { g with pktLen0 := 0x01#8 }) with tx := { pos := 10, crcAcc := 0 }, input := [.txEmit] },
    by decide, by decide, by decide, by decide, by decide, by decide⟩

theorem test_hyp_SerializerPayloadByte :
    ∃ s : State, s.faults = [] ∧ s.radio = .tx ∧ txP0 s ≤ s.tx.pos ∧ s.tx.pos < txC0 s ∧ s.tx.pos + 1 ≠ txN s ∧
      s.txFifo = 0x55#8 :: [] ∧ s.input = .txEmit :: [] :=
  ⟨{ withRegs .tx (fun g => { g with pktLen0 := 0x01#8 }) with
      tx := { pos := 10, crcAcc := 0 }, txFifo := [0x55#8], input := [.txEmit] },
    by decide, by decide, by decide, by decide, by decide, by decide, by decide⟩

/-- For DecodeOfEncodedFrame (receiver `g` filters, sender `f` does not) and SingleBitFlipIsNeverAccepted. -/
theorem test_hyp_frames :
    let f := frameCfg Config.default { Regs.reset 4 with pktCfg0 := 0x1B#8 }
    let g := frameCfg Config.default { Regs.reset 4 with pktCfg0 := 0x1B#8, filterCfg := 0x01#8 }
    g.crcMode = f.crcMode ∧ g.addrEn = f.addrEn ∧ g.ctrlEn = f.ctrlEn ∧ g.lenWide = f.lenWide ∧
      g.preambleLen = f.preambleLen ∧ g.syncLen = f.syncLen ∧ g.sync = f.sync ∧ g.crcInit = f.crcInit ∧
      g.filtEn = true ∧ g.addrEn = true ∧ f.crcMode ≠ .none ∧ (encodeFrame f [] 0x00#8 0x00#8).isSome = true ∧
      0 < (preamble f).length := by decide +kernel

theorem test_hyp_ReceiverAcceptsAsDecode :
    let s := { withRegs .rx (fun g => { g with pktCfg0 := 0x00#8 }) with
      input := .syncDetected :: [0x01#8, 0x55#8].map .rxByte ++ [] }
    s.faults = [] ∧ s.radio = .rx ∧ s.rx.phase = .hunt ∧ ((frameCfgOf s).filtEn = true → (frameCfgOf s).addrEn = true) ∧
      decodeFrame (frameCfgOf s) (preamble (frameCfgOf s) ++ syncWord (frameCfgOf s) ++ [0x01#8, 0x55#8]) =
        .accept [0x55#8] none none ∧
      s.rxFifo.length + [0x55#8].length ≤ s.cfg.fifoCap := by decide

/-- The same with an address and a control field, and the payload bringing the count to its threshold. -/
theorem test_hyp_ReceiverAcceptsAsDecode_fields :
    let s := { withRegs .rx (fun g => { g with pktCfg0 := 0x18#8, filterCfg := 0x01#8, localAddr := 0x12#8, rxFifoThr := 0x01#8 })
      with input := .syncDetected :: [0x03#8, 0x12#8, 0x77#8, 0x55#8].map .rxByte ++ [] }
    s.faults = [] ∧ s.radio = .rx ∧ s.rx.phase = .hunt ∧ (frameCfgOf s).filtEn = true ∧ (frameCfgOf s).addrEn = true ∧
      decodeFrame (frameCfgOf s)
          (preamble (frameCfgOf s) ++ syncWord (frameCfgOf s) ++ [0x03#8, 0x12#8, 0x77#8, 0x55#8]) =
        .accept [0x55#8] (some 0x12#8) (some 0x77#8) ∧
      s.rxFifo.length + [0x55#8].length ≤ s.cfg.fifoCap ∧ s.rxFifo.length < s.regs.rxFifoThr.toNat := by decide

theorem test_hyp_ReceiverRejectsAsDecode :
    (let s := { withRegs .rx (fun g => { g with pktCfg0 := 0x08#8, filterCfg := 0x01#8 }) with
        input := .syncDetected :: [0x01#8, 0x55#8].map .rxByte ++ [] };
      s.faults = [] ∧ s.radio = .rx ∧ s.rx.phase = .hunt ∧
        ((frameCfgOf s).filtEn = true → (frameCfgOf s).addrEn = true) ∧
        decodeFrame (frameCfgOf s) (preamble (frameCfgOf s) ++ syncWord (frameCfgOf s) ++ [0x01#8, 0x55#8]) = .filtered ∧
        s.rxFifo.length + 2 ≤
          s.cfg.fifoCap + lenBytesCount (frameCfgOf s) + overhead (frameCfgOf s) + crcCount (frameCfgOf s)) ∧
      (let s := { withRegs .rx (fun g => { g with pktCfg0 := 0x01#8 }) with
        input := .syncDetected :: [0x00#8, 0x00#8].map .rxByte ++ [] };
      s.faults = [] ∧ s.radio = .rx ∧ s.rx.phase = .hunt ∧
        decodeFrame (frameCfgOf s) (preamble (frameCfgOf s) ++ syncWord (frameCfgOf s) ++ [0x00#8, 0x00#8]) =
          .crcError) := by decide +kernel

/-- A length field below the overhead; then a body of no byte, and one that lacks only its last CRC byte. -/
theorem test_hyp_ReceiverLengthMismatchAsDecode :
    (let s := { on .rx with input := .syncDetected :: [0x00#8].map .rxByte ++ [] };
      s.faults = [] ∧ s.radio = .rx ∧ s.rx.phase = .hunt ∧ lenBytesCount (frameCfgOf s) = [0x00#8].length ∧
        lenValue ([0x00#8].take (lenBytesCount (frameCfgOf s))) < overhead (frameCfgOf s)) ∧
      (let s := { on .rx with input := .syncDetected :: [].map .rxByte ++ .carrierLost :: [] };
      s.faults = [] ∧ s.radio = .rx ∧ s.rx.phase = .hunt ∧
        ([] : List Byte).length < lenBytesCount (frameCfgOf s) + lenValue [] + crcCount (frameCfgOf s) ∧
        ¬ lenBytesCount (frameCfgOf s) ≤ ([] : List Byte).length ∧ s.rxFifo.length + 0 ≤ s.cfg.fifoCap) ∧
      (let s := { on .rx with
        input := .syncDetected :: [0x01#8, 0x00#8, 0x00#8].map .rxByte ++ .carrierLost :: [] };
      s.faults = [] ∧ s.radio = .rx ∧ s.rx.phase = .hunt ∧
        [0x01#8, 0x00#8, 0x00#8].length <
          lenBytesCount (frameCfgOf s) + lenValue ([0x01#8, 0x00#8, 0x00#8].take (lenBytesCount (frameCfgOf s))) +
            crcCount (frameCfgOf s) ∧
        overhead (frameCfgOf s) ≤ lenValue ([0x01#8, 0x00#8, 0x00#8].take (lenBytesCount (frameCfgOf s))) ∧
        s.rxFifo.length + 3 ≤ s.cfg.fifoCap) := by decide

/-- SyncDetected in HUNT; a byte with room before the last, the last with a CRC field, the last without; the FIFO full. -/
theorem test_hyp_ReceiverSyncAndPayloadBytes :
    (let s := { on .rx with input := [.syncDetected] };
      s.faults = [] ∧ s.radio = .rx ∧ s.rx.phase = .hunt ∧ s.input = .syncDetected :: []) ∧
      [(0x13#8, 0x0002#16), (0x13#8, 0x0001#16), (0x10#8, 0x0001#16)].all
        (fun (cfg, left) =>
          let s := { withRegs .rx (fun g => { g with pktCfg0 := cfg }) with
            rxFifo := List.replicate 127 0x00#8
            rx := { RxEngine.reset with phase := .payload, payloadLeft := left }
            input := [.rxByte 0x00#8] };
          decide (s.faults = [] ∧ s.radio = .rx ∧ s.rx.phase = .payload ∧ s.rxFifo.length ≠ s.cfg.fifoCap ∧
            s.input = .rxByte 0x00#8 :: []) &&
            ((frameCfgOf s).crcMode == .none) == (cfg == 0x10#8)) = true ∧
      (let s := { fullReceiver with input := [.rxByte 0x00#8] };
      s.faults = [] ∧ s.radio = .rx ∧ s.rx.phase = .payload ∧ s.rxFifo.length = s.cfg.fifoCap ∧
        s.input = .rxByte 0x00#8 :: []) := by decide +kernel

theorem test_hyp_RssiSamples :
    (let s := { sensing with input := [.csmaSample 0x81#8 0] };
      s.faults = [] ∧ s.radio = .ready ∧ s.csma.active = true ∧ s.csma.phase = .sense ∧ s.csma.samplesLeft ≠ 1 ∧
        s.input = .csmaSample 0x81#8 0 :: []) ∧
      (let s := { on .rx with input := [.rssiSample 0x81#8] };
      s.faults = [] ∧ s.radio = .rx ∧ s.input = .rssiSample 0x81#8 :: []) := by decide

/-- The four ends: an idle sample at the threshold; a busy one just above it, not persistent, at the last attempt, before it. -/
theorem test_hyp_SensingWindowEnd :
    [(0x80#8, 0x03#8, 0x04#8), (0x81#8, 0x01#8, 0x04#8), (0x81#8, 0x03#8, 0x01#8), (0x81#8, 0x03#8, 0x02#8)].all
      (fun (v, cfg, most) =>
        let s := { withRegs .ready (fun g =>
            { g with csmaCfg := cfg, csmaAttempts := 0x01#8, csmaMaxRetry := most }) with
          csma := { sensing.csma with samplesLeft := 1 }
          input := [.csmaSample v 0] };
        let busySeen := s.csma.busySeen || decide (s.regs.rssiThresh < v);
        decide (s.faults = [] ∧ s.radio = .ready ∧ s.csma.active = true ∧ s.csma.phase = .sense ∧
          s.csma.samplesLeft = 0x01#8 ∧ s.input = .csmaSample v 0 :: []) &&
          decide (busySeen = (v == 0x81#8) ∧ s.regs.csmaCfg.getLsbD 1 = (cfg == 0x03#8)) &&
          (decide (s.regs.csmaAttempts = s.regs.csmaMaxRetry) == (most == 0x01#8))) = true := by decide

theorem test_hyp_BackoffWaitIsBounded :
    ∃ e k : Nat, e = min sensing.regs.csmaAttempts.toNat (sensing.regs.csmaBe.extractLsb' 4 4).toNat ∧ k < 2 ^ e ∧ k = 1 :=
  ⟨1, 1, by decide, by decide, rfl⟩

theorem test_hyp_TickCountsDown :
    (let s := { backingOff with input := [.tick] };
      s.faults = [] ∧ s.radio = .ready ∧ s.csma.active = true ∧ s.csma.phase = .backoff ∧ 1 ≤ s.csma.ticksLeft ∧
        s.input = .tick :: []) ∧
      (let s := { backingOff with csma := { backingOff.csma with ticksLeft := 1 } };
      1 ≤ s.csma.ticksLeft ∧ s.csma.ticksLeft = 1) := by decide

/-- A run of one window of one sample, and the same run before its sample. -/
theorem test_hyp_BusyChannelEndsAfterExactlyMaxRetryWindows :
    let s := withRegs .ready (fun g => { g with csmaCfg := 0x03#8, csmaMaxRetry := 0x01#8 })
    readyIdle s = true ∧ RegsInv s ∧ csmaPersist s.regs = true ∧
      [Input.csmaSample 0x81#8 0].all (busyChannelInput s.regs.rssiThresh) = true ∧
      (runEnabled [.csmaSample 0x81#8 0] (startCsma s)).map (·.csma.active) = some false ∧
      (runEnabled [] (startCsma s)).map (·.csma.active) = some true := by decide

/-- For StepKeepsPowerInv, TransitionRelation, OutputRecordsOnlyGrow and FreeBytesReachOnlyTheReply: a step that enters TX at
lock, from a state with the invariant. -/
theorem test_hyp_steps :
    ∃ s t : State, PowerInv s ∧ step s = .next t ∧ t.radio = .tx ∧ s.radio ≠ .tx :=
  ⟨{ on .locking with pending := .tx, input := [.lockResult true] }, _, by decide, rfl, rfl, by decide⟩

theorem test_hyp_StepKeepsMachineInv :
    ∃ s t : State, MachineInv s ∧ step s = .next t ∧ t.csma.active = true :=
  ⟨{ sensing with input := [.csmaSample 0x81#8 0] }, _,
    ⟨by decide, by decide, by decide, by decide, by decide, by decide, by decide⟩, rfl, rfl⟩

theorem test_hyp_ConfigurationIsConstantWhileBusy :
    (∃ s t : State, busy s = true ∧ step s = .next t ∧ busy t = true) ∧
      ∃ s t : State, busy s = true ∧ step s = .next t ∧ busy t = false ∧ t.radio = .ready ∧
        lockedRegs t.regs = lockedRegs s.regs :=
  ⟨⟨{ on .tx with input := [.transaction [0x00#8, 0x00#8, 0x00#8]] }, _, by decide, rfl, by decide⟩,
    ⟨{ on .tx with input := [.transaction [0x80#8, 0x67#8]] }, _, by decide, rfl, by decide, rfl, rfl⟩⟩

theorem test_hyp_ErrorFlagsAreSticky :
    ∃ s t : State, step s = .next t ∧ s.err.lockErr = true ∧ s.err.cfgErr = true :=
  ⟨{ on .standby with err := ⟨true, true, true, true, true⟩, input := [.transaction [0x80#8, 0x62#8]] }, _, rfl, rfl,
    rfl⟩

theorem test_hyp_OnlyBrokenHostDutiesFault : ∃ s t : State, step s = .next t ∧ t.faults ≠ [] :=
  ⟨{ on .ready with input := [.transaction [0x01#8, 0xFF#8, 0x00#8]] }, _, rfl, by decide⟩

end Sys2Proof.Tests
end

section
/-! PROOFS of the family `00_scope.md`. What a scheduled input does (O4, O5), a written register read back (O10), the decoder
as the inverse of the encoder (O1), and the free bytes kept apart from the rest of the state (O60). -/

namespace Sys2Proof.Machine

open Sys2Proof

/-! ## The step -/

/-- In an unfaulted run the first scheduled input is taken off and performed (00_scope.md R11). -/
theorem step_of_input_cons (s : State) (e : Input) (rest : List Input) (hf : s.faults = [])
    (hi : s.input = e :: rest) : step s = runInput e { s with input := rest } := by
  simp only [step, (stuckFault_eq_none s).2 hf, runNext, hi]

/-- The schedule does not decide whether its first input is enabled. -/
theorem inputEnabled_setInput (e : Input) (s : State) (rest : List Input) :
    inputEnabled e { s with input := rest } = inputEnabled e s := by
  cases e <;> rfl

/-- Settles O4: the input is taken off the schedule, and its bytes' instruction is run. -/
theorem stepRunsTheDecodedTransaction : Obligations.StepRunsTheDecodedTransaction := by
  intro s bytes rest i hf hi hd
  calc step s
    _ = runTransaction bytes { s with input := rest } := step_of_input_cons s _ rest hf hi
    _ = exec i { s with input := rest } := by simp only [runTransaction, hd]

/-- An engine or environment step has its effect where it is enabled, and none elsewhere (notes/assumptions/3.md). -/
theorem step_of_environment_input (s : State) (e : Input) (rest : List Input) (hf : s.faults = [])
    (hi : s.input = e :: rest) (he : ∀ bytes, e ≠ .transaction bytes) :
    step s = .next (envStep e { s with input := rest }) := by
  rw [step_of_input_cons s e rest hf hi]
  cases e with
  | transaction bytes => exact absurd rfl (he bytes)
  | _ => rfl

/-- Fewer than two bytes only leave the schedule (30_encoding.md R103). -/
theorem step_of_short_transaction (s : State) (bytes : Bytes) (rest : List Input) (hf : s.faults = [])
    (hi : s.input = .transaction bytes :: rest) (hb : bytes.length < 2) : step s = .next { s with input := rest } := by
  rw [step_of_input_cons s _ rest hf hi]
  match bytes, hb with
  | [], _ => rfl
  | [_], _ => rfl

/-- With nothing scheduled the state stays (notes/assumptions/2.md). -/
theorem step_of_input_nil (s : State) (hf : s.faults = []) (hi : s.input = []) : step s = .next s := by
  simp only [step, (stuckFault_eq_none s).2 hf, runNext, hi]

/-- Settles O5: one clause for each way the schedule can begin, an instruction's transaction apart. -/
theorem stepPerformsOtherInputs : Obligations.StepPerformsOtherInputs := by
  refine ⟨fun s e rest hf hi he => ?_, step_of_short_transaction, step_of_input_nil⟩
  rw [step_of_environment_input s e rest hf hi he, envStep, inputEnabled_setInput]

/-! ## Registers -/

/-- The GPIO registers are a list: a write to one that exists changes that one alone (10_state.md R55). -/
theorem regGet_regSet_gpioCfg (g : Regs) (n k : Nat) (v : Byte) (hn : n < g.gpioCfg.length) :
    regGet (regSet g (.gpioCfg n) v) (.gpioCfg k) = if k = n then v else regGet g (.gpioCfg k) := by
  show (g.gpioCfg.set n v).getD k 0x00#8 = if k = n then v else g.gpioCfg.getD k 0x00#8
  by_cases h : k = n
  · subst h
    simp [hn]
  · simp [h, List.getElem?_set_ne (Ne.symm h)]

/-- What any register reads after an RW register was written (00_scope.md R10): the value there, elsewhere what it read. -/
theorem regGet_regSet (g : Regs) (r q : Reg) (v : Byte) (hr : regAccess r = .rw)
    (hlen : ∀ n, r = .gpioCfg n → n < g.gpioCfg.length) :
    regGet (regSet g r v) q = if q = r then v else regGet g q := by
  cases r
  case gpioCfg n =>
    cases q
    case gpioCfg k => simpa using regGet_regSet_gpioCfg g n k v (hlen n rfl)
    all_goals rfl
  -- `cases hr` leaves the RW registers only
  all_goals cases hr
  all_goals cases q <;> rfl

/-- Settles O10: `regGet_regSet` at the written register, and at any other. -/
theorem writtenRegisterReadsBack : Obligations.WrittenRegisterReadsBack := by
  intro g r q v hr hlen
  exact ⟨by rw [regGet_regSet g r r v hr hlen, if_pos rfl], fun hq => by rw [regGet_regSet g r q v hr hlen, if_neg hq]⟩

/-! ## Encoding -/

/-- The ten strobes with their codes under the map `m`, each keeping the ignored bytes `tail` (30_encoding.md R112). -/
def strobeTable (m : StrobeCode) (tail : Bytes) : List (Σ _ : Byte, Instr) :=
  [⟨m.tx, .tx tail⟩, ⟨m.rx, .rx tail⟩, ⟨m.ready, .ready tail⟩, ⟨m.standby, .standby tail⟩, ⟨m.sleep, .sleep tail⟩,
    ⟨m.sabort, .sabort tail⟩, ⟨m.sres, .sres tail⟩, ⟨m.flushrx, .flushrx tail⟩, ⟨m.flushtx, .flushtx tail⟩,
    ⟨m.pwrup, .pwrup tail⟩]

/-- The decoder takes the first strobe of the table that has the code, and reads any other code as reserved. -/
theorem decodeStrobe_eq_dlookup (m : StrobeCode) (c : Byte) (tail : Bytes) :
    decodeStrobe m c tail = ((strobeTable m tail).dlookup c).getD (.reservedStrobe c tail) := by
  unfold decodeStrobe strobeTable
  repeat' split
  all_goals simp_all [List.dlookup, eq_comm]

/-- Without a repeated code every strobe of the table is read back from its code (00_scope.md R7). -/
theorem decodeStrobe_of_mem (m : StrobeCode) (c : Byte) (tail : Bytes) (i : Instr) (hm : m.distinct = true)
    (hi : ⟨c, i⟩ ∈ strobeTable m tail) : decodeStrobe m c tail = i := by
  have hnodup : (strobeTable m tail).NodupKeys := show m.codes.Nodup from of_decide_eq_true hm
  rw [decodeStrobe_eq_dlookup, Option.mem_def.1 (List.mem_dlookup hnodup hi)]
  rfl

/-- A transaction with header 0x80 is read as its strobe (30_encoding.md R106). -/
theorem decode_encodeStrobe (m : StrobeCode) (c : Byte) (tail : Bytes) :
    decode m (encodeStrobe c tail) = .ok (decodeStrobe m c tail) := rfl

/-- An undefined header is read as a reserved one, with every byte kept (40_bus_transactions.md R150). -/
theorem decode_of_not_definedHeader (m : StrobeCode) (h a : Byte) (d : Bytes) (hh : definedHeader h = false) :
    decode m (h :: a :: d) = .ok (.reservedHeader h a d) := by
  simp only [definedHeader, Bool.or_eq_false_iff, beq_eq_false_iff_ne, ne_eq, ← BitVec.toNat_inj] at hh
  obtain ⟨⟨h00, h01⟩, h80⟩ := hh
  simp only [decode, decodeRecord]
  split
  · exact absurd ‹_› h00
  · exact absurd ‹_› h01
  · exact absurd ‹_› h80
  · rfl

/-- Data bytes at the FIFO port are a FIFO_WRITE (30_encoding.md R104). -/
theorem decodeWrite_fifoPort (d : Bytes) (hd : 1 ≤ d.length) : decodeWrite 0xFF#8 d = .fifoWrite d := by
  match d, hd with
  | [_], _ => rfl
  | _ :: _ :: _, _ => rfl

/-- Dummy bytes at the FIFO port are a FIFO_READ (30_encoding.md R105). -/
theorem decodeRead_fifoPort (d : Bytes) (hd : 1 ≤ d.length) : decodeRead 0xFF#8 d = .fifoRead d := by
  match d, hd with
  | [_], _ => rfl
  | _ :: _ :: _, _ => rfl

/-- Two or more data bytes at a register address are a BURST_WRITE (30_encoding.md R104). -/
theorem decodeWrite_burst (a : Byte) (d : Bytes) (ha : a ≠ 0xFF#8) (hd : 2 ≤ d.length) :
    decodeWrite a d = .burstWrite a d := by
  match d, hd with
  | _ :: _ :: _, _ => simp only [decodeWrite, ha, if_false]

/-- Two or more dummy bytes at a register address are a BURST_READ (30_encoding.md R105). -/
theorem decodeRead_burst (a : Byte) (d : Bytes) (ha : a ≠ 0xFF#8) (hd : 2 ≤ d.length) :
    decodeRead a d = .burstRead a d := by
  match d, hd with
  | _ :: _ :: _, _ => simp only [decodeRead, ha, if_false]

/-- A transaction with header 0x00 is read by its address and its data bytes (30_encoding.md R104). -/
theorem decode_write_header (m : StrobeCode) (a : Byte) (d : Bytes) :
    decode m (0x00#8 :: a :: d) = .ok (decodeWrite a d) := rfl

/-- A transaction with header 0x01 is read by its address and its dummy bytes (30_encoding.md R105). -/
theorem decode_read_header (m : StrobeCode) (a : Byte) (d : Bytes) :
    decode m (0x01#8 :: a :: d) = .ok (decodeRead a d) := rfl

/-- Settles O1: one case for each row of the opcode table, by the header its encoding begins with. -/
theorem decodeOfEncodeIsIdentity : Obligations.DecodeOfEncodeIsIdentity := by
  intro m i hm hw
  have hstrobe (c : Byte) (tail : Bytes) (j : Instr) (hj : ⟨c, j⟩ ∈ strobeTable m tail) :
      decode m (encodeStrobe c tail) = .ok j := by
    rw [decode_encodeStrobe, decodeStrobe_of_mem m c tail j hm hj]
  cases i with
  | poll form addr => cases form <;> rfl
  | fifoWrite data => rw [encode, decode_write_header, decodeWrite_fifoPort data (of_decide_eq_true hw)]
  | write addr datum =>
    have ha : addr ≠ 0xFF#8 := bne_iff_ne.1 hw
    simp only [encode, decode_write_header, decodeWrite, ha, if_false]
  | burstWrite addr data =>
    obtain ⟨ha, hd⟩ := Bool.and_eq_true_iff.1 hw
    rw [encode, decode_write_header, decodeWrite_burst addr data (bne_iff_ne.1 ha) (of_decide_eq_true hd)]
  | fifoRead dummies => rw [encode, decode_read_header, decodeRead_fifoPort dummies (of_decide_eq_true hw)]
  | read addr dummy =>
    have ha : addr ≠ 0xFF#8 := bne_iff_ne.1 hw
    simp only [encode, decode_read_header, decodeRead, ha, if_false]
  | burstRead addr dummies =>
    obtain ⟨ha, hd⟩ := Bool.and_eq_true_iff.1 hw
    rw [encode, decode_read_header, decodeRead_burst addr dummies (bne_iff_ne.1 ha) (of_decide_eq_true hd)]
  | pwrup tail => exact hstrobe m.pwrup tail _ (by simp [strobeTable])
  | sres tail => exact hstrobe m.sres tail _ (by simp [strobeTable])
  | ready tail => exact hstrobe m.ready tail _ (by simp [strobeTable])
  | standby tail => exact hstrobe m.standby tail _ (by simp [strobeTable])
  | sleep tail => exact hstrobe m.sleep tail _ (by simp [strobeTable])
  | rx tail => exact hstrobe m.rx tail _ (by simp [strobeTable])
  | tx tail => exact hstrobe m.tx tail _ (by simp [strobeTable])
  | sabort tail => exact hstrobe m.sabort tail _ (by simp [strobeTable])
  | flushtx tail => exact hstrobe m.flushtx tail _ (by simp [strobeTable])
  | flushrx tail => exact hstrobe m.flushrx tail _ (by simp [strobeTable])
  | reservedStrobe code tail =>
    have hc : definedStrobeCode m code = false := by simpa [Instr.wellFormed] using hw
    rw [encode, decode_encodeStrobe, (decodeStrobe_eq_reservedStrobe_iff m code tail).2 hc]
  | reservedHeader header second tail =>
    have hh : definedHeader header = false := by simpa [Instr.wellFormed] using hw
    exact decode_of_not_definedHeader m header second tail hh

/-! ## Free bytes -/

/-- The state with other free bytes to come and another last reply. -/
def withDraws (n : Nat) (old : List Byte) (s : State) : State :=
  { s with drawIndex := n, reply := old }

@[simp] theorem withDraws_cfg (n : Nat) (old : List Byte) (s : State) : (withDraws n old s).cfg = s.cfg := rfl
@[simp] theorem withDraws_radio (n : Nat) (old : List Byte) (s : State) : (withDraws n old s).radio = s.radio := rfl
@[simp] theorem withDraws_txFifo (n : Nat) (old : List Byte) (s : State) : (withDraws n old s).txFifo = s.txFifo := rfl
@[simp] theorem withDraws_rxFifo (n : Nat) (old : List Byte) (s : State) : (withDraws n old s).rxFifo = s.rxFifo := rfl
@[simp] theorem withDraws_rx (n : Nat) (old : List Byte) (s : State) : (withDraws n old s).rx = s.rx := rfl

/-- `u` is `s` but for the free bytes to come and the last reply. -/
def SameButDraws (s u : State) : Prop :=
  ∃ n old, u = withDraws n old s

/-- An effect that neither uses nor changes the free bytes to come and the last reply. -/
def IgnoresDraws (f : State → State) : Prop :=
  ∀ n old s, f (withDraws n old s) = withDraws n old (f s)

/-- An effect through which the free bytes and the last reply reach only each other. -/
def ConfinesDraws (f : State → State) : Prop :=
  ∀ s u, SameButDraws s u → SameButDraws (f s) (f u)

theorem IgnoresDraws.confinesDraws {f : State → State} (hf : IgnoresDraws f) : ConfinesDraws f := by
  rintro s _ ⟨n, old, rfl⟩
  exact ⟨n, old, hf n old s⟩

theorem IgnoresDraws.comp {f g : State → State} (hf : IgnoresDraws f) (hg : IgnoresDraws g) :
    IgnoresDraws (fun s => f (g s)) := fun n old s => by
  show f (g (withDraws n old s)) = withDraws n old (f (g s))
  rw [hg, hf]

/-- A choice between two such effects is one where the condition does not look at the free bytes. -/
theorem IgnoresDraws.ite {c : State → Prop} {dec : ∀ s, Decidable (c s)} {f g : State → State}
    (hc : ∀ n old s, c (withDraws n old s) ↔ c s) (hf : IgnoresDraws f) (hg : IgnoresDraws g) :
    IgnoresDraws (fun s => if c s then f s else g s) := fun n old s => by
  show (if c (withDraws n old s) then f (withDraws n old s) else g (withDraws n old s)) =
    withDraws n old (if c s then f s else g s)
  rw [hf, hg, apply_ite (withDraws n old)]
  exact if_congr (hc n old s) rfl rfl

theorem ignoresDraws_id : IgnoresDraws id := fun _ _ _ => rfl

/-! ### Engine and environment steps -/

theorem ignoresDraws_setErr (f : ErrFlag) : IgnoresDraws (setErr f) := fun _ _ _ => rfl

theorem ignoresDraws_signal (e : Event) : IgnoresDraws (signal e) := fun _ _ _ => rfl

theorem ignoresDraws_startCsma : IgnoresDraws startCsma := fun _ _ _ => rfl

theorem ignoresDraws_txStrobeInReady : IgnoresDraws txStrobeInReady :=
  .ite (fun _ _ _ => Iff.rfl) (ignoresDraws_setErr .cfgErr)
    (.ite (fun _ _ _ => Iff.rfl) ignoresDraws_startCsma (fun _ _ _ => rfl))

theorem ignoresDraws_rxStrobeInReady : IgnoresDraws rxStrobeInReady :=
  .ite (fun _ _ _ => Iff.rfl) (ignoresDraws_setErr .cfgErr) (fun _ _ _ => rfl)

theorem ignoresDraws_carryOut (p : Pending) : IgnoresDraws (carryOut p) := by
  cases p with
  | none => exact ignoresDraws_id
  | tx => exact ignoresDraws_txStrobeInReady
  | rx => exact ignoresDraws_rxStrobeInReady

theorem ignoresDraws_lockResult (ok : Bool) : IgnoresDraws (lockResult ok) := by
  cases ok with
  | false => exact fun _ _ _ => rfl
  | true =>
    exact fun n old s =>
      ignoresDraws_carryOut s.pending n old (setPending .none (signal .readyReached (setRadio .ready s)))

theorem ignoresDraws_frameEnd : IgnoresDraws frameEnd :=
  .ite (fun _ _ _ => Iff.rfl) (fun _ _ _ => rfl) (.ite (fun _ _ _ => Iff.rfl) (fun _ _ _ => rfl) (fun _ _ _ => rfl))

theorem phasePresent_withDraws (n : Nat) (old : List Byte) (s : State) :
    phasePresent (withDraws n old s) = phasePresent s := by
  funext q
  cases q <;> rfl

theorem ignoresDraws_advance (p : RxPhase) : IgnoresDraws (advance p) := fun n old s => by
  unfold advance
  rw [phasePresent_withDraws]
  cases (phasesAfter p).find? (phasePresent s) with
  | none => exact ignoresDraws_frameEnd n old s
  | some q => rfl

theorem ignoresDraws_rxLenDone : IgnoresDraws rxLenDone :=
  .ite (fun _ _ _ => Iff.rfl) (fun _ _ _ => rfl) (.comp (ignoresDraws_advance .len) (fun _ _ _ => rfl))

theorem ignoresDraws_rxLen (b : Byte) : IgnoresDraws (rxLen b) :=
  .ite (fun _ _ _ => Iff.rfl) (.comp ignoresDraws_rxLenDone (fun _ _ _ => rfl)) (fun _ _ _ => rfl)

theorem ignoresDraws_rxAddr (b : Byte) : IgnoresDraws (rxAddr b) := fun n old s =>
  ignoresDraws_advance .addr n old { s with regs := { s.regs with rxAddr := b } }

theorem ignoresDraws_rxCtrl (b : Byte) : IgnoresDraws (rxCtrl b) := fun n old s =>
  ignoresDraws_advance .ctrl n old { s with regs := { s.regs with rxCtrl := b } }

theorem ignoresDraws_rxPush (b : Byte) : IgnoresDraws (rxPush b) :=
  .ite (fun _ _ _ => Iff.rfl) (fun _ _ _ => rfl) (fun _ _ _ => rfl)

theorem ignoresDraws_rxPayload (b : Byte) : IgnoresDraws (rxPayload b) :=
  .ite (fun _ _ _ => Iff.rfl) (fun _ _ _ => rfl) fun n old s => by
    have hadvance := ignoresDraws_advance .payload n old
      { rxPush b s with rx := { (rxPush b s).rx with payloadLeft := (rxPush b s).rx.payloadLeft - 1 } }
    dsimp only
    rw [ignoresDraws_rxPush, apply_ite (withDraws n old), ← hadvance]
    rfl

theorem ignoresDraws_rxCrc (b : Byte) : IgnoresDraws (rxCrc b) :=
  .ite (fun _ _ _ => Iff.rfl) (.comp ignoresDraws_frameEnd (fun _ _ _ => rfl)) (fun _ _ _ => rfl)

theorem ignoresDraws_rxByte (b : Byte) : IgnoresDraws (rxByte b) := fun n old s => by
  unfold rxByte
  rw [withDraws_rx]
  cases s.rx.phase with
  | hunt => rfl
  | len => exact ignoresDraws_rxLen b n old (rxCrcUpdate b s)
  | addr => exact ignoresDraws_rxAddr b n old (rxCrcUpdate b s)
  | ctrl => exact ignoresDraws_rxCtrl b n old (rxCrcUpdate b s)
  | payload => exact ignoresDraws_rxPayload b n old (rxCrcUpdate b s)
  | crc => exact ignoresDraws_rxCrc b n old s

theorem txPop_withDraws (n : Nat) (old : List Byte) (s : State) :
    txPop (withDraws n old s) = (txPop s).map (Prod.map id (withDraws n old)) := by
  unfold txPop
  rw [withDraws_txFifo]
  cases s.txFifo with
  | nil => rfl
  | cons b rest =>
    have hthreshold : IgnoresDraws txThreshold :=
      .ite (fun _ _ _ => Iff.rfl) (ignoresDraws_signal .txFifoAlmostEmpty) ignoresDraws_id
    exact congrArg (fun t => some (b, t)) (hthreshold n old { s with txFifo := rest })

theorem ignoresDraws_txAdvance (b : Byte) : IgnoresDraws (txAdvance b) :=
  .ite (fun _ _ _ => Iff.rfl) (fun _ _ _ => rfl) (fun _ _ _ => rfl)

theorem ignoresDraws_txEmit : IgnoresDraws txEmit := by
  have hcrc (b : Byte) (n : Nat) (old : List Byte) (s : State) :
      txAdvance b (txCrc b (withDraws n old s)) = withDraws n old (txAdvance b (txCrc b s)) :=
    ignoresDraws_txAdvance b n old (txCrc b s)
  unfold txEmit
  refine .ite (fun _ _ _ => Iff.rfl) (fun n old s => ignoresDraws_txAdvance _ n old s)
    (.ite (fun _ _ _ => Iff.rfl) (fun n old s => hcrc _ n old s)
      (.ite (fun _ _ _ => Iff.rfl) (fun n old s => ?_) (fun n old s => ignoresDraws_txAdvance _ n old s)))
  rw [txPop_withDraws]
  rcases txPop s with _ | ⟨b, s1⟩
  · rfl
  · exact hcrc b n old s1

theorem ignoresDraws_startBackoff (k : Nat) : IgnoresDraws (startBackoff k) :=
  .ite (fun _ _ _ => Iff.rfl) (fun _ _ _ => rfl) (fun _ _ _ => rfl)

theorem ignoresDraws_windowEnd (k : Nat) : IgnoresDraws (windowEnd k) :=
  .ite (fun _ _ _ => Iff.rfl) (fun _ _ _ => rfl)
    (.ite (fun _ _ _ => Iff.rfl) (fun _ _ _ => rfl)
      (.ite (fun _ _ _ => Iff.rfl) (fun _ _ _ => rfl) (ignoresDraws_startBackoff k)))

theorem ignoresDraws_csmaSample (v : Byte) (k : Nat) : IgnoresDraws (csmaSample v k) :=
  .ite (fun _ _ _ => Iff.rfl) (.comp (ignoresDraws_windowEnd k) (fun _ _ _ => rfl)) (fun _ _ _ => rfl)

theorem ignoresDraws_csmaTick : IgnoresDraws csmaTick :=
  .ite (fun _ _ _ => Iff.rfl) (fun _ _ _ => rfl) (fun _ _ _ => rfl)

/-- No engine or environment step takes a free byte or touches the last reply (00_scope.md R11). -/
theorem ignoresDraws_inputEffect (e : Input) : IgnoresDraws (inputEffect e) := by
  cases e with
  | transaction bytes => exact ignoresDraws_id
  | txEmit => exact ignoresDraws_txEmit
  | lockResult ok => exact ignoresDraws_lockResult ok
  | rssiSample v => exact fun _ _ _ => rfl
  | csmaSample v k => exact ignoresDraws_csmaSample v k
  | tick => exact ignoresDraws_csmaTick
  | syncDetected => exact fun _ _ _ => rfl
  | rxByte b => exact ignoresDraws_rxByte b
  | carrierLost => exact fun _ _ _ => rfl

theorem inputEnabled_withDraws (e : Input) (n : Nat) (old : List Byte) (s : State) :
    inputEnabled e (withDraws n old s) = inputEnabled e s := by
  cases e <;> rfl

theorem ignoresDraws_envStep (e : Input) : IgnoresDraws (envStep e) :=
  .ite (fun n old s => by rw [inputEnabled_withDraws]) (ignoresDraws_inputEffect e) ignoresDraws_id

/-! ### Strobes -/

theorem ignoresDraws_readyEffect : IgnoresDraws readyEffect :=
  .ite (fun _ _ _ => Iff.rfl) (fun _ _ _ => rfl)
    (.ite (fun _ _ _ => Iff.rfl) ignoresDraws_id
      (.ite (fun _ _ _ => Iff.rfl) ignoresDraws_id (ignoresDraws_setErr .cmdErr)))

theorem ignoresDraws_standbyEffect : IgnoresDraws standbyEffect :=
  .ite (fun _ _ _ => Iff.rfl) (fun _ _ _ => rfl)
    (.ite (fun _ _ _ => Iff.rfl) ignoresDraws_id (ignoresDraws_setErr .cmdErr))

theorem ignoresDraws_sleepEffect : IgnoresDraws sleepEffect := by
  have hflush : IgnoresDraws (fun s => if fifoRetain s.regs then s else flushRxFifo (flushTxFifo s)) :=
    .ite (fun _ _ _ => Iff.rfl) ignoresDraws_id (fun _ _ _ => rfl)
  exact .ite (fun _ _ _ => Iff.rfl) (.comp (f := setRadio .sleep) (fun _ _ _ => rfl) hflush)
    (.ite (fun _ _ _ => Iff.rfl) ignoresDraws_id (ignoresDraws_setErr .cmdErr))

theorem ignoresDraws_rxEffect : IgnoresDraws rxEffect :=
  .ite (fun _ _ _ => Iff.rfl) ignoresDraws_rxStrobeInReady
    (.ite (fun _ _ _ => Iff.rfl) (fun _ _ _ => rfl) (ignoresDraws_setErr .cmdErr))

theorem ignoresDraws_txEffect : IgnoresDraws txEffect :=
  .ite (fun _ _ _ => Iff.rfl) ignoresDraws_txStrobeInReady
    (.ite (fun _ _ _ => Iff.rfl) (fun _ _ _ => rfl) (ignoresDraws_setErr .cmdErr))

theorem ignoresDraws_sabortEffect : IgnoresDraws sabortEffect := fun n old s => by
  have hflush : IgnoresDraws (fun s => if s.rx.phase ≠ .hunt then flushRxFifo s else s) :=
    .ite (fun _ _ _ => Iff.rfl) (fun _ _ _ => rfl) ignoresDraws_id
  have hend : IgnoresDraws (fun s => if s.csma.active then endCsma 4#8 s else s) :=
    .ite (fun _ _ _ => Iff.rfl) (fun _ _ _ => rfl) ignoresDraws_id
  unfold sabortEffect
  rw [withDraws_radio]
  cases s.radio with
  | rx => exact congrArg (fun t => signal .readyReached (setRadio .ready t)) (hflush n old s)
  | ready => exact hend n old s
  | _ => rfl

theorem ignoresDraws_flushtxEffect : IgnoresDraws flushtxEffect :=
  .ite (fun _ _ _ => Iff.rfl) (ignoresDraws_setErr .cmdErr) (fun _ _ _ => rfl)

/-! ### Transactions -/

theorem ignoresDraws_writeReg (a : Byte) (r : Reg) (v : Byte) : IgnoresDraws (writeReg a r v) := by
  have hrebinds (n : Nat) (old : List Byte) (s : State) (v : Byte) :
      rebinds r v (withDraws n old s) = rebinds r v s := by
    cases r <;> rfl
  have hstore : IgnoresDraws (storeReg r (v &&& regMask r)) := fun n old s => by
    rw [storeReg_eq, storeReg_eq, hrebinds]
    rfl
  exact .ite (fun _ _ _ => Iff.rfl)
    (.ite (fun _ _ _ => Iff.rfl) (ignoresDraws_setErr .cfgErr)
      (.ite (fun _ _ _ => Iff.rfl) hstore (ignoresDraws_setErr .cfgErr)))
    ignoresDraws_id

theorem regWriteByte_withDraws (a v : Byte) (n : Nat) (old : List Byte) (s : State) :
    regWriteByte a v (withDraws n old s) = (regWriteByte a v s).map (withDraws n old) := by
  unfold regWriteByte
  split
  · unfold txFifoWrite
    rw [apply_ite (Option.map (withDraws n old))]
    rfl
  · rw [withDraws_cfg]
    cases regAt s.cfg.numGpio a with
    | none => rfl
    | some r => exact congrArg some (ignoresDraws_writeReg a r v n old s)

theorem ignoresDraws_writeBytes (d : Bytes) (a : Byte) : IgnoresDraws (writeBytes a d) := by
  induction d generalizing a with
  | nil => exact fun _ _ _ => rfl
  | cons b ds ih =>
    intro n old s
    rw [writeBytes, writeBytes, regWriteByte_withDraws]
    cases regWriteByte a b s with
    | none => rfl
    | some s1 => exact ih (nextAddr a) n old s1

/-- A read byte is there or not whatever the free bytes are, and a free one reaches only their count
(40_bus_transactions.md R143). -/
theorem regReadByte_withDraws (a : Byte) (n : Nat) (old : List Byte) (s : State) :
    regReadByte a s = none ∧ regReadByte a (withDraws n old s) = none ∨
      ∃ b t c u, regReadByte a s = some (b, t) ∧ regReadByte a (withDraws n old s) = some (c, u) ∧
        SameButDraws t u := by
  unfold regReadByte
  split
  · unfold rxFifoRead
    rw [withDraws_rxFifo]
    cases s.rxFifo with
    | nil => exact .inl ⟨rfl, rfl⟩
    | cons b rest => exact .inr ⟨b, _, b, _, rfl, rfl, n, old, rfl⟩
  · rw [withDraws_cfg]
    cases regAt s.cfg.numGpio a with
    | none => exact .inr ⟨_, _, _, _, rfl, rfl, n + 1, old, rfl⟩
    | some r => exact .inr ⟨_, _, _, _, rfl, rfl, n, old, by rw [clearOnRead_eq, clearOnRead_eq]; rfl⟩

theorem confinesDraws_readBytes (k : Nat) (a : Byte) : ConfinesDraws (fun s => (readBytes a k s).2) := by
  induction k generalizing a with
  | zero => exact ignoresDraws_id.confinesDraws
  | succ k ih =>
    rintro s _ ⟨n, old, rfl⟩
    dsimp only
    rw [readBytes, readBytes]
    rcases regReadByte_withDraws a n old s with ⟨hs, hu⟩ | ⟨b, t, c, u, hs, hu, htu⟩
    · rw [hs, hu]
      exact ⟨n, old, rfl⟩
    · rw [hs, hu]
      exact ih (nextAddr a) t u htu

/-- The end of a transaction writes its own reply over the last one. -/
theorem SameButDraws.finish {s u : State} (h : SameButDraws s u) (r r' : List Byte) :
    SameButDraws (finish r s) (finish r' u) := by
  obtain ⟨n, old, rfl⟩ := h
  exact ⟨n, r', rfl⟩

theorem SameButDraws.finishFree {s u : State} (h : SameButDraws s u) (r r' : List Byte) (k : Nat) :
    SameButDraws (finishFree r k s) (finishFree r' k u) := by
  obtain ⟨n, old, rfl⟩ := h
  exact ⟨n + k, r' ++ freeBytes n k, rfl⟩

theorem confinesDraws_finishFaulted (info : HostFault) : ConfinesDraws (finishFaulted info) := by
  rintro s _ ⟨n, old, rfl⟩
  exact ⟨n, [], rfl⟩

theorem confinesDraws_unpowered {off : State → State} (hoff : IgnoresDraws off) (k : Nat) :
    ConfinesDraws (unpowered off k) :=
  fun s u h => (hoff.confinesDraws s u h).finishFree _ _ k

theorem confinesDraws_command {effect : State → State} (heffect : IgnoresDraws effect) (k : Nat) :
    ConfinesDraws (command effect k) :=
  fun s u h => (heffect.confinesDraws s u h).finishFree _ _ k

theorem burstCheck_withDraws (a : Byte) (k n : Nat) (old : List Byte) (s : State) :
    burstCheck a k (withDraws n old s) = burstCheck a k s := rfl

theorem confinesDraws_memWrite (a : Byte) (d : Bytes) : ConfinesDraws (memWrite a d) := by
  rintro s _ ⟨n, old, rfl⟩
  rw [memWrite, memWrite, burstCheck_withDraws]
  have h : SameButDraws s (withDraws n old s) := ⟨n, old, rfl⟩
  cases burstCheck a d.length s with
  | some info => exact confinesDraws_finishFaulted info s _ h
  | none => exact ((ignoresDraws_writeBytes d a).confinesDraws s _ h).finishFree _ _ d.length

theorem confinesDraws_memRead (a : Byte) (k : Nat) : ConfinesDraws (memRead a k) := by
  rintro s _ ⟨n, old, rfl⟩
  rw [memRead, memRead, burstCheck_withDraws]
  have h : SameButDraws s (withDraws n old s) := ⟨n, old, rfl⟩
  cases burstCheck a k s with
  | some info => exact confinesDraws_finishFaulted info s _ h
  | none => exact (confinesDraws_readBytes k a s _ h).finish _ _

/-! ### Steps -/

/-- Two outcomes go on alike: where the first has a next state, the second has it too, up to the draws. -/
def NextButDraws (x y : Host.Outcome State Fault Refusal) : Prop :=
  ∀ t, x = .next t → ∃ u, y = .next u ∧ SameButDraws t u

theorem transact_withDraws {off on : State → State} (hoff : IgnoresDraws off) (hon : ConfinesDraws on) (k : Nat)
    (s u : State) (h : SameButDraws s u) : NextButDraws (transact off k on s) (transact off k on u) := by
  intro t ht
  obtain ⟨hf, rfl⟩ := (transact_next off on k s t).1 ht
  have hunpowered := confinesDraws_unpowered hoff k s u h
  have hpowered := hon s u h
  obtain ⟨n, old, rfl⟩ := h
  refine ⟨_, (transact_next off on k _ _).2 ⟨hf, rfl⟩, ?_⟩
  show SameButDraws (if s.powered then _ else _) (if s.powered then _ else _)
  cases s.powered with
  | true => exact hpowered
  | false => exact hunpowered

theorem exec_withDraws (i : Instr) (s u : State) (h : SameButDraws s u) : NextButDraws (exec i s) (exec i u) := by
  have hcommand {effect : State → State} (heffect : IgnoresDraws effect) (k : Nat) :
      NextButDraws (strobe effect k s) (strobe effect k u) :=
    transact_withDraws ignoresDraws_id (confinesDraws_command heffect k) k s u h
  have hmemory {on : State → State} (hon : ConfinesDraws on) (k : Nat) :
      NextButDraws (transact id k on s) (transact id k on u) :=
    transact_withDraws ignoresDraws_id hon k s u h
  cases i with
  | poll form addr => exact hcommand ignoresDraws_id 0
  | fifoWrite data => exact hmemory (confinesDraws_memWrite fifoPort data) data.length
  | write addr datum => exact hmemory (confinesDraws_memWrite addr [datum]) 1
  | burstWrite addr data => exact hmemory (confinesDraws_memWrite addr data) data.length
  | fifoRead dummies => exact hmemory (confinesDraws_memRead fifoPort dummies.length) dummies.length
  | read addr dummy => exact hmemory (confinesDraws_memRead addr 1) 1
  | burstRead addr dummies => exact hmemory (confinesDraws_memRead addr dummies.length) dummies.length
  | pwrup tail =>
    exact transact_withDraws (fun _ _ _ => rfl) (confinesDraws_command (ignoresDraws_setErr .cmdErr) tail.length)
      tail.length s u h
  | sres tail => exact hcommand (effect := sresEffect) (fun _ _ _ => rfl) tail.length
  | ready tail => exact hcommand ignoresDraws_readyEffect tail.length
  | standby tail => exact hcommand ignoresDraws_standbyEffect tail.length
  | sleep tail => exact hcommand ignoresDraws_sleepEffect tail.length
  | rx tail => exact hcommand ignoresDraws_rxEffect tail.length
  | tx tail => exact hcommand ignoresDraws_txEffect tail.length
  | sabort tail => exact hcommand ignoresDraws_sabortEffect tail.length
  | flushtx tail => exact hcommand ignoresDraws_flushtxEffect tail.length
  | flushrx tail => exact hcommand (effect := flushrxEffect) (fun _ _ _ => rfl) tail.length
  | reservedStrobe code tail => exact hcommand (ignoresDraws_setErr .cmdErr) tail.length
  | reservedHeader header second tail => exact hcommand (ignoresDraws_setErr .cmdErr) tail.length

/-- Whatever is scheduled, the free bytes and the last reply reach only themselves. -/
theorem step_withDraws (n : Nat) (old : List Byte) (s : State) : NextButDraws (step s) (step (withDraws n old s)) := by
  intro t ht
  obtain ⟨hf, ⟨hi, rfl⟩ | ⟨e, rest, hi, hstep⟩⟩ := step_cases s t ht
  · exact ⟨_, step_of_input_nil _ hf hi, n, old, rfl⟩
  · rcases hstep with ⟨bytes, i, rfl, hd, hexec⟩ | ⟨bytes, rfl, hb, rfl⟩ | ⟨he, rfl⟩
    · rw [stepRunsTheDecodedTransaction (withDraws n old s) bytes rest i hf hi hd]
      exact exec_withDraws i _ _ ⟨n, old, rfl⟩ t hexec
    · exact ⟨_, step_of_short_transaction _ bytes rest hf hi hb, n, old, rfl⟩
    · exact ⟨_, step_of_environment_input _ e rest hf hi he, n, old, ignoresDraws_envStep e n old { s with input := rest }⟩

/-- Settles O60: `step_withDraws`, with the two fields put back. -/
theorem freeBytesReachOnlyTheReply : Obligations.FreeBytesReachOnlyTheReply := by
  intro s t n old ht
  obtain ⟨u, hu, m, r, rfl⟩ := step_withDraws n old s t ht
  exact ⟨_, hu, rfl⟩

end Sys2Proof.Machine
end

section
/-! PROOFS of the family `10_state.md`. Writes and reads of one register (O11, O12, O15), what a step can do to the output
records and to the configuration (O56, O58), and the machine's invariants under a step (O52, O53). -/

namespace Sys2Proof.Machine

open Sys2Proof

/-! ## Access to one register -/

theorem ne_fifoPort_of_lt (a : Byte) (ha : a.toNat < 0xFF) : a ≠ fifoPort := by
  rintro rfl
  exact absurd ha (by decide)

/-- Away from the port a one-byte WRITE is the write of its register (40_bus_transactions.md R142, R144). -/
theorem exec_write_mapped (s : State) (a d : Byte) (r : Reg) (h : Live s) (ha : a ≠ fifoPort) (hfit : BurstFits a 1 s)
    (hr : regAt s.cfg.numGpio a = some r) : exec (.write a d) s = .next (after s 1 (writeReg a r d s)) := by
  have hbyte : regWriteByte a d s = some (writeReg a r d s) := by simp only [regWriteByte, ha, if_false, hr]
  calc exec (.write a d) s
    _ = .next (memWrite a [d] s) := transact_of_live id (memWrite a [d]) 1 s h
    _ = .next (finishFree (statusBytes s) 1 (writeReg a r d s)) := by
      rw [memWrite_of_fits a [d] s hfit]
      simp only [writeBytes, hbyte, List.length_singleton]
    _ = .next (after s 1 (writeReg a r d s)) := by
      rw [regWriteByte_frame a d s _ hbyte]
      rfl

/-- Away from the port a one-byte READ returns its register and clears what it returns (40_bus_transactions.md R143, R146). -/
theorem exec_read_mapped (s : State) (a dummy : Byte) (r : Reg) (h : Live s) (ha : a ≠ fifoPort)
    (hfit : BurstFits a 1 s) (hr : regAt s.cfg.numGpio a = some r) :
    exec (.read a dummy) s = .next (afterRead s [readReg r s] (clearOnRead r s)) := by
  have hbytes : readBytes a 1 s = ([readReg r s], clearOnRead r s) := by
    simp only [readBytes, regReadByte, ha, if_false, hr]
  calc exec (.read a dummy) s
    _ = .next (memRead a 1 s) := transact_of_live id (memRead a 1) 1 s h
    _ = .next (finish (statusBytes s ++ [readReg r s]) (clearOnRead r s)) := by
      rw [memRead_of_fits a 1 s hfit, hbytes]
    _ = .next (afterRead s [readReg r s] (clearOnRead r s)) := by
      rw [clearOnRead_eq]
      rfl

/-- Every address the busy lock covers is that of an RW register (10_state.md R30, R33). -/
theorem regAt_of_locked (n : Nat) (a : Byte) (ha : a.toNat ≤ 0x14) : ∃ r, regAt n a = some r ∧ regAccess r = .rw := by
  unfold regAt
  interval_cases a.toNat <;> exact ⟨_, rfl, rfl⟩

/-- The RO and RC registers stand at 0x20 and above (10_state.md R30). -/
theorem regAccess_of_regAt_low (n : Nat) (a : Byte) (r : Reg) (hr : regAt n a = some r) (ha : a.toNat ≤ 0x1F) :
    regAccess r = .rw := by
  rw [regAddr_of_regAt n a r hr] at ha
  cases r <;> simp_all [regAddr, regAccess]

/-- Settles O11: the branch of `writeReg` that the lock takes, then its store outside the locked range. -/
theorem busyLockRejectsConfigurationWrites : Obligations.BusyLockRejectsConfigurationWrites := by
  refine ⟨fun s a d hlive hbusy hfit => ⟨fun ha => ?locked, fun r hlow hhigh hr hlegal => ?stored⟩, fun s => ?busy⟩
  case locked =>
    obtain ⟨r, hr, hrw⟩ := regAt_of_locked s.cfg.numGpio a ha
    have hlocked : (lockedAddr a && busy s) = true := by simp [lockedAddr, ha, hbusy]
    rw [exec_write_mapped s a d r hlive (ne_fifoPort_of_lt a (by omega)) hfit hr]
    simp only [writeReg, hrw, hlocked, if_true]
    rfl
  case stored =>
    have hunlocked : lockedAddr a = false := decide_eq_false (by omega)
    refine ⟨_, exec_write_mapped s a d r hlive (ne_fifoPort_of_lt a (by omega)) hfit hr, ?_⟩
    simp [after, writeReg, regAccess_of_regAt_low _ a r hr hhigh, hunlocked, hlegal, storeReg_eq]
  case busy => simp [busy, or_assoc]

/-! ## Legal values -/

theorem regLegal_csmaBe_iff (cap : Nat) (v : Byte) :
    regLegal cap .csmaBe v = true ↔ v.toNat % 16 ≤ v.toNat / 16 := by
  have hv : v.toNat < 256 := v.isLt
  have hmax : (v.extractLsb' 4 4).toNat = v.toNat / 16 := by
    simp only [BitVec.extractLsb'_toNat, Nat.shiftRight_eq_div_pow]
    omega
  simp [regLegal, hmax]

theorem gpioEn_iff (v : Byte) : gpioEn v = true ↔ v.toNat % 2 = 1 := by
  simp [gpioEn, BitVec.getLsbD, Nat.testBit_zero]

theorem gpioSel_eq (v : Byte) : gpioSel v = v.toNat / 8 := by
  have hv : v.toNat < 256 := v.isLt
  simp only [gpioSel, BitVec.extractLsb'_toNat, Nat.shiftRight_eq_div_pow]
  omega

theorem regLegal_gpioCfg_iff (cap n : Nat) (v : Byte) :
    regLegal cap (.gpioCfg n) v = true ↔ v.toNat % 2 = 0 ∨ 1 ≤ v.toNat / 8 ∧ v.toNat / 8 ≤ 15 := by
  simp [regLegal, gpioSel_eq, ← Bool.not_eq_true, gpioEn_iff]

/-- Settles O12: an illegal value meets CFG_ERR, by the lock or by its legality; then the legality table. -/
theorem illegalWriteIsRejectedWhole : Obligations.IllegalWriteIsRejectedWhole := by
  refine ⟨fun s a d r hlive ha hfit hr hrw hillegal => ?_, fun cap v n => ?_⟩
  · rw [exec_write_mapped s a d r hlive ha hfit hr]
    rcases writeReg_cases a r d s with ⟨-, hro⟩ | ⟨hrejected, -⟩ | ⟨-, -, -, hlegal⟩
    · exact absurd hrw hro
    · rw [hrejected]
      rfl
    · exact absurd hlegal (by simp [hillegal])
  · refine ⟨?pktCfg0, ?preambleLen, ?syncLen, regLegal_csmaBe_iff cap v, ?csmaMaxRetry, ?senseWindow, ?txFifoThr,
      ?rxFifoThr, regLegal_gpioCfg_iff cap n v, fun r hlisted hgpio => ?other⟩
    case other => cases r <;> simp_all [regLegal]
    all_goals simp [regLegal]

/-! ## The flag registers -/

/-- `ERR_FLAGS` is the top field of the status word (10_state.md R29, R52). -/
theorem statusWord_errBits (s : State) (h : s.powered = true) : (statusWord s).extractLsb' 11 5 = errBits s.err := by
  have htop (e : BitVec 5) (c : BitVec 1) (p : BitVec 2) (f1 f2 f3 f4 f5 : BitVec 1) (r : BitVec 3) :
      (e ++ c ++ p ++ f1 ++ f2 ++ f3 ++ f4 ++ f5 ++ r).extractLsb' 11 5 = e := by
    repeat rw [BitVec.extractLsb'_append_eq_of_le (by decide)]
    simp
  simp only [statusWord, h, if_true]
  exact htop ..

/-- Settles O15: `exec_read_mapped` at the three flag registers. -/
theorem flagReadClearsWhatItReturns : Obligations.FlagReadClearsWhatItReturns := by
  intro s dummy hlive hfit
  have hread (a : Byte) (r : Reg) (ha : a.toNat < 0xFF) (hr : regAt s.cfg.numGpio a = some r) :
      exec (.read a dummy) s = .next (afterRead s [readReg r s] (clearOnRead r s)) :=
    exec_read_mapped s a dummy r hlive (ne_fifoPort_of_lt a ha)
      ⟨fun m hm => Nat.le_trans (by decide) (hfit.1 m hm), .inr ha⟩ hr
  refine ⟨hread 0x2A#8 .eventFlags1 (by decide) rfl, hread 0x2B#8 .eventFlags0 (by decide) rfl, ?_⟩
  rw [statusWord_errBits s hlive.2]
  exact hread 0x2C#8 .errFlags (by decide) rfl

/-! ## What an instruction can do -/

/-- The effect of an instruction that is a command on a powered chip (40_bus_transactions.md R148, R150, 41_state_machine.md);
nothing for the reads and writes, which are no commands. -/
def commandEffect : Instr → State → State
  | .pwrup _ => setErr .cmdErr
  | .sres _ => sresEffect
  | .ready _ => readyEffect
  | .standby _ => standbyEffect
  | .sleep _ => sleepEffect
  | .rx _ => rxEffect
  | .tx _ => txEffect
  | .sabort _ => sabortEffect
  | .flushtx _ => flushtxEffect
  | .flushrx _ => flushrxEffect
  | .reservedStrobe _ _ => setErr .cmdErr
  | .reservedHeader _ _ _ => setErr .cmdErr
  | _ => id

/-- The effect of an instruction on an unpowered chip (40_bus_transactions.md R149). -/
def offEffect : Instr → State → State
  | .pwrup _ => powerUp
  | _ => id

/-- The four ways in which an instruction goes on from `s` (40_bus_transactions.md R140). -/
inductive Performed (i : Instr) (s : State) : State → Prop
  | write (hp : s.powered = true) (a : Byte) (d : Bytes) : Performed i s (memWrite a d s)
  | read (hp : s.powered = true) (a : Byte) (n : Nat) : Performed i s (memRead a n s)
  | command (hp : s.powered = true) (n : Nat) : Performed i s (command (commandEffect i) n s)
  | unpowered (hp : s.powered = false) (n : Nat) : Performed i s (unpowered (offEffect i) n s)

/-- An instruction that has a next state is performed in one of the four ways. -/
theorem performed_of_exec (i : Instr) (s t : State) (h : exec i s = .next t) : s.faults = [] ∧ Performed i s t := by
  have hcases {on : State → State} {n : Nat} (hon : s.powered = true → Performed i s (on s))
      (ht : transact (offEffect i) n on s = .next t) : s.faults = [] ∧ Performed i s t := by
    obtain ⟨hf, rfl⟩ := (transact_next _ on n s t).1 ht
    refine ⟨hf, ?_⟩
    cases hp : s.powered with
    | true => exact hon hp
    | false => exact .unpowered hp n
  cases i with
  | fifoWrite data => exact hcases (.write · fifoPort data) h
  | write addr datum => exact hcases (.write · addr [datum]) h
  | burstWrite addr data => exact hcases (.write · addr data) h
  | fifoRead dummies => exact hcases (.read · fifoPort dummies.length) h
  | read addr dummy => exact hcases (.read · addr 1) h
  | burstRead addr dummies => exact hcases (.read · addr dummies.length) h
  | _ => exact hcases (.command · _) h

/-- A write transaction reaches what its bytes reach, FAULTS and the bookkeeping (40_bus_transactions.md R144). -/
theorem memWrite_frame (a : Byte) (d : Bytes) (s : State) :
    memWrite a d s =
      { s with
        regs := (memWrite a d s).regs
        err := (memWrite a d s).err
        txFifo := (memWrite a d s).txFifo
        faults := (memWrite a d s).faults
        reply := (memWrite a d s).reply
        drawIndex := (memWrite a d s).drawIndex
        txnIndex := (memWrite a d s).txnIndex } := by
  unfold memWrite
  split
  · rfl
  · rw [writeBytes_frame]
    rfl

/-- A read transaction reaches what its bytes reach, FAULTS and the bookkeeping (40_bus_transactions.md R146). -/
theorem memRead_frame (a : Byte) (n : Nat) (s : State) :
    memRead a n s =
      { s with
        regs :=
          { s.regs with
            eventFlags1 := (memRead a n s).regs.eventFlags1
            eventFlags0 := (memRead a n s).regs.eventFlags0 }
        err := (memRead a n s).err
        rxFifo := (memRead a n s).rxFifo
        faults := (memRead a n s).faults
        reply := (memRead a n s).reply
        drawIndex := (memRead a n s).drawIndex
        txnIndex := (memRead a n s).txnIndex } := by
  unfold memRead
  split
  · rfl
  · dsimp only
    rw [readBytes_frame]
    rfl

/-! ## What a step leaves alone -/

/-- What every step but a reset, a read and a write keeps: the parameters, the power, the configuration registers and FAULTS
stand as they are, the other output records only grow (10_state.md R33, R56). -/
structure Evolves (s t : State) : Prop where
  cfg : t.cfg = s.cfg
  powered : t.powered = s.powered
  locked : lockedRegs t.regs = lockedRegs s.regs
  airOut : s.airOut <+: t.airOut
  pinTrace : s.pinTrace <+: t.pinTrace
  faults : t.faults = s.faults

/-- A change of nothing but the control state, flags, FIFOs, engines, registers outside the lock, and the bookkeeping. -/
theorem Evolves.of_eq {s t : State}
    (h : t =
      { s with
        radio := t.radio, pending := t.pending, regs := t.regs, err := t.err, txFifo := t.txFifo, rxFifo := t.rxFifo,
        csma := t.csma, tx := t.tx, rx := t.rx, reply := t.reply, drawIndex := t.drawIndex, txnIndex := t.txnIndex,
        input := t.input })
    (hregs : lockedRegs t.regs = lockedRegs s.regs) : Evolves s t := by
  rw [h]
  exact ⟨rfl, rfl, hregs, List.prefix_rfl, List.prefix_rfl, rfl⟩

theorem Evolves.refl (s : State) : Evolves s s := .of_eq rfl rfl

theorem Evolves.trans {s t u : State} (h : Evolves s t) (h' : Evolves t u) : Evolves s u where
  cfg := h'.cfg.trans h.cfg
  powered := h'.powered.trans h.powered
  locked := h'.locked.trans h.locked
  airOut := h.airOut.trans h'.airOut
  pinTrace := h.pinTrace.trans h'.pinTrace
  faults := h'.faults.trans h.faults

/-- `Evolves.trans` with the later step first, so that its state is known when the earlier one is checked. -/
theorem Evolves.after {s t u : State} (h' : Evolves t u) (h : Evolves s t) : Evolves s u := h.trans h'

theorem evolves_signal (e : Event) (s : State) : Evolves s (signal e s) where
  cfg := rfl
  powered := rfl
  locked := setEventFlag_lockedRegs _ _
  airOut := List.prefix_rfl
  pinTrace := List.prefix_append _ _
  faults := rfl

/-- What a step of the TX serializer or the RX deserializer does besides: no request, no CSMA run, and at most the return to
READY (42_packet_engine.md R233, R234, R246). -/
structure EngineStep (s t : State) : Prop extends Evolves s t where
  pending : t.pending = s.pending
  csma : t.csma = s.csma
  radio : t.radio = s.radio ∨ t.radio = .ready

/-- A change of nothing but error flags, FIFOs, the two packet engines and registers outside the lock. -/
theorem EngineStep.of_eq {s t : State}
    (h : t =
      { s with regs := t.regs, err := t.err, txFifo := t.txFifo, rxFifo := t.rxFifo, tx := t.tx, rx := t.rx })
    (hregs : lockedRegs t.regs = lockedRegs s.regs) : EngineStep s t := by
  rw [h]
  exact ⟨.of_eq rfl hregs, rfl, rfl, .inl rfl⟩

theorem EngineStep.refl (s : State) : EngineStep s s := .of_eq rfl rfl

theorem EngineStep.trans {s t u : State} (h : EngineStep s t) (h' : EngineStep t u) : EngineStep s u where
  toEvolves := h.toEvolves.trans h'.toEvolves
  pending := h'.pending.trans h.pending
  csma := h'.csma.trans h.csma
  radio := by
    rcases h'.radio with hradio | hradio
    · rw [hradio]
      exact h.radio
    · exact .inr hradio

theorem EngineStep.after {s t u : State} (h' : EngineStep t u) (h : EngineStep s t) : EngineStep s u := h.trans h'

theorem engineStep_signal (e : Event) (s : State) : EngineStep s (signal e s) :=
  ⟨evolves_signal e s, rfl, rfl, .inl rfl⟩

theorem engineStep_toReady (s : State) : EngineStep s (setRadio .ready s) :=
  ⟨.of_eq rfl rfl, rfl, rfl, .inr rfl⟩

/-! ### The RX deserializer -/

/-- A frame fails with its result and its event (42_packet_engine.md R243 to R245, R248). -/
theorem engineStep_failFrame_signal (e : Event) (s t : State) (h : EngineStep s t) :
    EngineStep s (failFrame (signal e t)) :=
  (h.trans (engineStep_signal e t)).trans (.of_eq rfl rfl)

theorem engineStep_overrun (s : State) : EngineStep s (overrun s) :=
  engineStep_failFrame_signal .rxOverrun s (setErr .rxOverrun (setRxResult 4#8 s)) (.of_eq rfl rfl)

theorem engineStep_lengthMismatch (s : State) : EngineStep s (lengthMismatch s) :=
  engineStep_failFrame_signal .lengthMismatch s (setRxResult 3#8 s) (.of_eq rfl rfl)

theorem engineStep_acceptFrame (s : State) : EngineStep s (acceptFrame s) :=
  have hresult : EngineStep s (setRxPhase .hunt (setRxResult 1#8 s)) := .of_eq rfl rfl
  ((hresult.trans (engineStep_toReady _)).trans (engineStep_signal .rxDataReady _)).trans
    (engineStep_signal .readyReached _)

theorem engineStep_frameEnd (s : State) : EngineStep s (frameEnd s) := by
  rcases frameEnd_cases s with ⟨h, -⟩ | ⟨-, ⟨h, -⟩ | ⟨h, -⟩⟩ <;> rw [h]
  · exact engineStep_failFrame_signal .crcError s (setRxResult 2#8 s) (.of_eq rfl rfl)
  · exact engineStep_failFrame_signal .rxFiltered s (setRxResult 5#8 s) (.of_eq rfl rfl)
  · exact engineStep_acceptFrame s

theorem engineStep_advance (p : RxPhase) (s : State) : EngineStep s (advance p s) := by
  rcases advance_cases p s with ⟨q, -, -, h⟩ | ⟨-, h⟩ <;> rw [h]
  · exact .of_eq rfl rfl
  · exact engineStep_frameEnd s

theorem engineStep_rxLenDone (s : State) : EngineStep s (rxLenDone s) := by
  have hstore : EngineStep s (storeRxLen s.rx.len s) := .of_eq rfl rfl
  unfold rxLenDone
  dsimp only
  split
  · exact hstore.trans (engineStep_lengthMismatch _)
  · exact hstore.trans (.after (engineStep_advance .len _) (.of_eq rfl rfl))

theorem engineStep_rxLen (b : Byte) (s : State) : EngineStep s (rxLen b s) := by
  unfold rxLen
  dsimp only
  split
  · exact .after (engineStep_rxLenDone _) (.of_eq rfl rfl)
  · exact .of_eq rfl rfl

theorem engineStep_rxPush (b : Byte) (s : State) : EngineStep s (rxPush b s) := by
  have hpush : EngineStep s { s with rxFifo := s.rxFifo ++ [b] } := .of_eq rfl rfl
  rw [rxPush_cases]
  split
  · exact hpush.trans (engineStep_signal .rxFifoAlmostFull _)
  · exact hpush

theorem engineStep_rxPayload (b : Byte) (s : State) : EngineStep s (rxPayload b s) := by
  unfold rxPayload
  dsimp only
  split
  · exact engineStep_overrun s
  · refine (engineStep_rxPush b s).trans ?_
    split
    · exact .after (engineStep_advance .payload _) (.of_eq rfl rfl)
    · exact .of_eq rfl rfl

theorem engineStep_rxCrc (b : Byte) (s : State) : EngineStep s (rxCrc b s) := by
  unfold rxCrc
  dsimp only
  split
  · exact .after (engineStep_frameEnd _) (.of_eq rfl rfl)
  · exact .of_eq rfl rfl

theorem engineStep_rxByte (b : Byte) (s : State) : EngineStep s (rxByte b s) := by
  have hcrc : EngineStep s (rxCrcUpdate b s) := .of_eq rfl rfl
  unfold rxByte
  cases s.rx.phase with
  | hunt => exact .refl s
  | len => exact hcrc.trans (engineStep_rxLen b _)
  | addr => exact hcrc.trans (.after (engineStep_advance .addr _) (.of_eq rfl rfl))
  | ctrl => exact hcrc.trans (.after (engineStep_advance .ctrl _) (.of_eq rfl rfl))
  | payload => exact hcrc.trans (engineStep_rxPayload b _)
  | crc => exact engineStep_rxCrc b s

theorem engineStep_syncDetected (s : State) : EngineStep s (syncDetected s) :=
  .after (engineStep_signal .syncDetected _) (.of_eq rfl rfl)

/-! ### The TX serializer -/

theorem engineStep_txDone (s : State) : EngineStep s (txDone s) :=
  ((engineStep_toReady s).trans (engineStep_signal .txDone _)).trans (engineStep_signal .readyReached _)

theorem engineStep_txUnderflow (s : State) : EngineStep s (txUnderflow s) :=
  have herr : EngineStep s (setErr .txUnderflow s) := .of_eq rfl rfl
  ((herr.trans (engineStep_signal .txUnderflow _)).trans (engineStep_toReady _)).trans
    (engineStep_signal .readyReached _)

theorem engineStep_txAdvance (b : Byte) (s : State) : EngineStep s (txAdvance b s) := by
  have hemit : EngineStep s { s with airOut := s.airOut ++ [b], tx := { s.tx with pos := s.tx.pos + 1 } } :=
    { cfg := rfl, powered := rfl, locked := rfl, airOut := List.prefix_append _ _, pinTrace := List.prefix_rfl,
      faults := rfl, pending := rfl, csma := rfl, radio := .inl rfl }
  rcases txAdvance_cases b s with ⟨-, h⟩ | ⟨-, h⟩ <;> rw [h]
  · exact hemit.trans (engineStep_txDone _)
  · exact hemit

theorem engineStep_txPop (s t : State) (b : Byte) (h : txPop s = some (b, t)) : EngineStep s t := by
  rcases txPop_cases s with ⟨hnone, -⟩ | ⟨c, rest, -, hsome⟩
  · rw [hnone] at h
    cases h
  · rw [hsome] at h
    cases h
    have hpop : EngineStep s { s with txFifo := rest } := .of_eq rfl rfl
    split
    · exact hpop.trans (engineStep_signal .txFifoAlmostEmpty _)
    · exact hpop

theorem engineStep_txEmit (s : State) : EngineStep s (txEmit s) := by
  have hcrc (b : Byte) (t : State) : EngineStep t (txAdvance b (txCrc b t)) :=
    .after (engineStep_txAdvance b _) (.of_eq rfl rfl)
  unfold txEmit
  dsimp only
  split
  · exact engineStep_txAdvance _ s
  split
  · exact hcrc _ s
  split
  · split
    · exact engineStep_txUnderflow s
    next b s1 h => exact (engineStep_txPop s s1 b h).trans (hcrc b s1)
  · exact engineStep_txAdvance _ s

/-! ### The CSMA engine and the radio -/

theorem evolves_windowEnd (k : Nat) (s : State) : Evolves s (windowEnd k s) := by
  have hend (v : Byte) (e : Event) : Evolves s (signal e (endCsma v s)) :=
    .after (evolves_signal e _) (.of_eq rfl rfl)
  rcases windowEnd_cases k s with ⟨h, -⟩ | ⟨-, ⟨h, -⟩ | ⟨-, ⟨h, -⟩ | ⟨h, -⟩⟩⟩ <;> rw [h]
  · exact (hend 1#8 .channelClear).trans (.of_eq rfl rfl)
  · exact hend 2#8 .channelBusy
  · exact hend 3#8 .maxRetries
  · obtain ⟨d, -, ⟨-, h⟩ | ⟨-, h⟩⟩ := startBackoff_cases k s <;> rw [h]
    · exact .of_eq rfl rfl
    · exact .of_eq rfl rfl

theorem evolves_csmaSample (v : Byte) (k : Nat) (s : State) : Evolves s (csmaSample v k s) := by
  unfold csmaSample
  dsimp only
  split
  · exact .after (evolves_windowEnd k _) (.of_eq rfl rfl)
  · exact .of_eq rfl rfl

theorem evolves_csmaTick (s : State) : Evolves s (csmaTick s) := by
  unfold csmaTick
  dsimp only
  split
  · exact .of_eq rfl rfl
  · exact .of_eq rfl rfl

theorem evolves_txStrobeInReady (s : State) : Evolves s (txStrobeInReady s) := by
  rcases txStrobeInReady_cases s with ⟨h, -⟩ | ⟨-, ⟨h, -⟩ | ⟨h, -⟩⟩ <;> rw [h] <;> exact .of_eq rfl rfl

theorem evolves_rxStrobeInReady (s : State) : Evolves s (rxStrobeInReady s) := by
  rcases rxStrobeInReady_cases s with ⟨h, -⟩ | ⟨h, -⟩ <;> rw [h] <;> exact .of_eq rfl rfl

theorem evolves_lockResult (ok : Bool) (s : State) : Evolves s (lockResult ok s) := by
  cases ok with
  | false => exact .after (evolves_signal .lockError _) (.of_eq rfl rfl)
  | true =>
    have hready : Evolves s (setPending .none (signal .readyReached (setRadio .ready s))) :=
      .after ((evolves_signal .readyReached (setRadio .ready s)).trans (.of_eq rfl rfl)) (.of_eq rfl rfl)
    refine hready.trans ?_
    show Evolves _ (carryOut s.pending _)
    cases s.pending with
    | none => exact .refl _
    | tx => exact evolves_txStrobeInReady _
    | rx => exact evolves_rxStrobeInReady _

theorem evolves_inputEffect (e : Input) (s : State) : Evolves s (inputEffect e s) := by
  cases e with
  | transaction bytes => exact .refl s
  | txEmit => exact (engineStep_txEmit s).toEvolves
  | lockResult ok => exact evolves_lockResult ok s
  | rssiSample v => exact .of_eq rfl rfl
  | csmaSample v k => exact evolves_csmaSample v k s
  | tick => exact evolves_csmaTick s
  | syncDetected => exact (engineStep_syncDetected s).toEvolves
  | rxByte b => exact (engineStep_rxByte b s).toEvolves
  | carrierLost => exact (engineStep_lengthMismatch s).toEvolves

theorem evolves_envStep (e : Input) (s : State) : Evolves s (envStep e s) := by
  unfold envStep
  split
  · exact evolves_inputEffect e s
  · exact .refl s

/-! ### Commands -/

theorem evolves_sabortEffect (s : State) : Evolves s (sabortEffect s) := by
  unfold sabortEffect
  cases s.radio with
  | tx => exact .after (evolves_signal .readyReached _) (.of_eq rfl rfl)
  | rx =>
    refine .trans ?_ (evolves_signal .readyReached _)
    split <;> exact .of_eq rfl rfl
  | ready =>
    dsimp only
    split <;> exact .of_eq rfl rfl
  | _ => exact .of_eq rfl rfl

/-- No command but SRES touches the configuration or the records other than by growth (41_state_machine.md R173 to R184). -/
theorem evolves_commandEffect (i : Instr) (s : State) (h : ∀ tail, i ≠ .sres tail) :
    Evolves s (commandEffect i s) := by
  cases i with
  | sres tail => exact absurd rfl (h tail)
  | ready tail =>
    show Evolves s (readyEffect s)
    unfold readyEffect
    repeat' split
    all_goals exact .of_eq rfl rfl
  | standby tail =>
    show Evolves s (standbyEffect s)
    unfold standbyEffect
    repeat' split
    all_goals exact .of_eq rfl rfl
  | sleep tail =>
    show Evolves s (sleepEffect s)
    unfold sleepEffect
    repeat' split
    all_goals exact .of_eq rfl rfl
  | rx tail =>
    show Evolves s (rxEffect s)
    unfold rxEffect
    split
    · exact evolves_rxStrobeInReady s
    · split <;> exact .of_eq rfl rfl
  | tx tail =>
    show Evolves s (txEffect s)
    unfold txEffect
    split
    · exact evolves_txStrobeInReady s
    · split <;> exact .of_eq rfl rfl
  | sabort tail => exact evolves_sabortEffect s
  | flushtx tail =>
    show Evolves s (flushtxEffect s)
    unfold flushtxEffect
    split <;> exact .of_eq rfl rfl
  | _ => exact .of_eq rfl rfl

/-! ## The output records -/

/-- AIR_OUT, PIN_TRACE and FAULTS of `s` are prefixes of those of `t` (10_state.md R56). -/
def RecordsGrow (s t : State) : Prop :=
  s.airOut <+: t.airOut ∧ s.pinTrace <+: t.pinTrace ∧ s.faults <+: t.faults

theorem Evolves.recordsGrow {s t : State} (h : Evolves s t) : RecordsGrow s t :=
  ⟨h.airOut, h.pinTrace, h.faults ▸ List.prefix_rfl⟩

/-- A change that leaves AIR_OUT and PIN_TRACE, and at most adds to FAULTS. -/
theorem RecordsGrow.of_faults {s t : State} (hair : t.airOut = s.airOut) (hpins : t.pinTrace = s.pinTrace)
    (hfaults : s.faults <+: t.faults) : RecordsGrow s t :=
  ⟨hair ▸ List.prefix_rfl, hpins ▸ List.prefix_rfl, hfaults⟩

/-- The bytes of a write add at most one record to FAULTS (40_bus_transactions.md R144). -/
theorem faults_prefix_writeBytes (d : Bytes) (a : Byte) (s : State) : s.faults <+: (writeBytes a d s).faults := by
  induction d generalizing a s with
  | nil => exact List.prefix_rfl
  | cons b ds ih =>
    rw [writeBytes]
    split
    · exact List.prefix_append _ _
    next s1 h =>
      have hfaults : s1.faults = s.faults := by rw [regWriteByte_frame a b s s1 h]
      exact hfaults ▸ ih (nextAddr a) s1

/-- The bytes of a read add at most one record to FAULTS (40_bus_transactions.md R146). -/
theorem faults_prefix_readBytes (n : Nat) (a : Byte) (s : State) : s.faults <+: (readBytes a n s).2.faults := by
  induction n generalizing a s with
  | zero => exact List.prefix_rfl
  | succ n ih =>
    rw [readBytes]
    split
    · exact List.prefix_append _ _
    next b s1 h =>
      have hfaults : s1.faults = s.faults := by rw [regReadByte_frame a b s s1 h]
      exact hfaults ▸ ih (nextAddr a) s1

theorem recordsGrow_memWrite (a : Byte) (d : Bytes) (s : State) : RecordsGrow s (memWrite a d s) := by
  refine .of_faults (by rw [memWrite_frame]) (by rw [memWrite_frame]) ?_
  unfold memWrite
  split
  · exact List.prefix_append _ _
  · exact faults_prefix_writeBytes d a s

theorem recordsGrow_memRead (a : Byte) (n : Nat) (s : State) : RecordsGrow s (memRead a n s) := by
  refine .of_faults (by rw [memRead_frame]) (by rw [memRead_frame]) ?_
  unfold memRead
  split
  · exact List.prefix_append _ _
  · exact faults_prefix_readBytes n a s

/-- A reset keeps the output records (70_reset_and_hazards.md R391, 41_state_machine.md R172). -/
theorem recordsGrow_commandEffect (i : Instr) (s : State) : RecordsGrow s (commandEffect i s) := by
  cases i with
  | sres tail => exact .of_faults rfl rfl List.prefix_rfl
  | _ => exact (evolves_commandEffect _ s (by simp)).recordsGrow

theorem recordsGrow_offEffect (i : Instr) (s : State) : RecordsGrow s (offEffect i s) := by
  cases i <;> exact .of_faults rfl rfl List.prefix_rfl

theorem Performed.recordsGrow {i : Instr} {s t : State} (h : Performed i s t) : RecordsGrow s t := by
  cases h with
  | write hp a d => exact recordsGrow_memWrite a d s
  | read hp a n => exact recordsGrow_memRead a n s
  | command hp n => exact recordsGrow_commandEffect i s
  | unpowered hp n => exact recordsGrow_offEffect i s

/-- Settles O58: the records grow in each of the ways a step goes on. -/
theorem outputRecordsOnlyGrow : Obligations.OutputRecordsOnlyGrow := by
  intro s t ht
  obtain ⟨-, ⟨-, rfl⟩ | ⟨e, rest, -, ⟨bytes, i, -, -, hexec⟩ | ⟨bytes, -, -, rfl⟩ | ⟨-, rfl⟩⟩⟩ := step_cases s t ht
  · exact (Evolves.refl _).recordsGrow
  · exact (performed_of_exec i { s with input := rest } t hexec).2.recordsGrow
  · exact (Evolves.refl s).recordsGrow
  · exact (evolves_envStep e { s with input := rest }).recordsGrow

/-! ## The configuration while BUSY -/

/-- The frame configuration is read from locked registers alone (10_state.md R33, 42_packet_engine.md R220). -/
theorem frameCfg_of_lockedRegs (c : Config) (g g' : Regs) (h : lockedRegs g = lockedRegs g') :
    frameCfg c g = frameCfg c g' := by
  simp only [lockedRegs, List.cons.injEq, and_true] at h
  simp only [frameCfg, h]

/-- The parameters and the locked registers stand as they are. -/
def KeepsConfig (s t : State) : Prop :=
  t.cfg = s.cfg ∧ lockedRegs t.regs = lockedRegs s.regs

theorem Evolves.keepsConfig {s t : State} (h : Evolves s t) : KeepsConfig s t := ⟨h.cfg, h.locked⟩

/-- A store outside the busy lock changes no locked register (10_state.md R30, R33). -/
theorem lockedRegs_regSet (n : Nat) (a : Byte) (r : Reg) (v : Byte) (g : Regs) (hr : regAt n a = some r)
    (ha : lockedAddr a = false) : lockedRegs (regSet g r v) = lockedRegs g := by
  have haddr : 0x14 < regAddr r := by
    rw [← regAddr_of_regAt n a r hr]
    simpa [lockedAddr] using ha
  cases r <;> simp_all [regAddr, regSet, lockedRegs]

/-- While BUSY a written byte changes no locked register (10_state.md R33). -/
theorem lockedRegs_regWriteByte (a v : Byte) (s t : State) (hbusy : busy s = true) (h : regWriteByte a v s = some t) :
    lockedRegs t.regs = lockedRegs s.regs := by
  unfold regWriteByte at h
  split at h
  · rw [((txFifoWrite_eq_some v s t).1 h).2]
  · split at h
    · cases h
      rfl
    next r hr =>
      cases h
      rcases writeReg_cases a r v s with ⟨h, -⟩ | ⟨h, -⟩ | ⟨h, -, hlock, -⟩ <;> rw [h]
      · rfl
      · have hunlocked : lockedAddr a = false := by
          cases ha : lockedAddr a with
          | false => rfl
          | true => simp [hlock ha] at hbusy
        rw [storeReg_eq]
        exact lockedRegs_regSet _ a r _ _ hr hunlocked

/-- While BUSY no byte of a write changes a locked register (10_state.md R33). -/
theorem lockedRegs_writeBytes (d : Bytes) (a : Byte) (s : State) (hbusy : busy s = true) :
    lockedRegs (writeBytes a d s).regs = lockedRegs s.regs := by
  induction d generalizing a s with
  | nil => rfl
  | cons b ds ih =>
    rw [writeBytes]
    split
    · rfl
    next s1 h =>
      have hbusy1 : busy s1 = true := by
        rw [regWriteByte_frame a b s s1 h]
        exact hbusy
      exact (ih (nextAddr a) s1 hbusy1).trans (lockedRegs_regWriteByte a b s s1 hbusy h)

theorem keepsConfig_memWrite (a : Byte) (d : Bytes) (s : State) (hbusy : busy s = true) :
    KeepsConfig s (memWrite a d s) := by
  refine ⟨by rw [memWrite_frame], ?_⟩
  unfold memWrite
  split
  · rfl
  · exact lockedRegs_writeBytes d a s hbusy

theorem keepsConfig_memRead (a : Byte) (n : Nat) (s : State) : KeepsConfig s (memRead a n s) := by
  rw [memRead_frame]
  exact ⟨rfl, rfl⟩

/-- An instruction in a BUSY state keeps the configuration unless it resets the chip (10_state.md R33). -/
theorem Performed.keepsConfig {i : Instr} {s t : State} (h : Performed i s t) (hbusy : busy s = true) :
    KeepsConfig s t ∨ ∃ tail, i = .sres tail ∨ s.powered = false ∧ i = .pwrup tail := by
  cases h with
  | write hp a d => exact .inl (keepsConfig_memWrite a d s hbusy)
  | read hp a n => exact .inl (keepsConfig_memRead a n s)
  | command hp n =>
    by_cases hi : ∃ tail, i = .sres tail
    · obtain ⟨tail, hi⟩ := hi
      exact .inr ⟨tail, .inl hi⟩
    · exact .inl (evolves_commandEffect i s (not_exists.1 hi)).keepsConfig
  | unpowered hp n =>
    cases i with
    | pwrup tail => exact .inr ⟨tail, .inr ⟨hp, rfl⟩⟩
    | _ => exact .inl ⟨rfl, rfl⟩

/-- Settles O56: the configuration is kept in each of the ways a step goes on, but for a reset. -/
theorem configurationIsConstantWhileBusy : Obligations.ConfigurationIsConstantWhileBusy := by
  intro s t hbusy ht
  have hkept (h : KeepsConfig s t) : lockedRegs t.regs = lockedRegs s.regs ∧ frameCfgOf t = frameCfgOf s :=
    ⟨h.2, by rw [frameCfgOf, h.1, frameCfg_of_lockedRegs s.cfg t.regs s.regs h.2, frameCfgOf]⟩
  obtain ⟨-, ⟨-, rfl⟩ | ⟨e, rest, hi, ⟨bytes, i, rfl, hd, hexec⟩ | ⟨bytes, -, -, rfl⟩ | ⟨-, rfl⟩⟩⟩ :=
    step_cases s t ht
  · exact .inl ⟨rfl, rfl⟩
  · rcases (performed_of_exec i { s with input := rest } t hexec).2.keepsConfig hbusy with h | ⟨tail, hreset⟩
    · exact .inl (hkept h)
    · exact .inr ⟨bytes, rest, i, tail, hi, hd, hreset⟩
  · exact .inl ⟨rfl, rfl⟩
  · exact .inl (hkept (evolves_envStep e { s with input := rest }).keepsConfig)

/-! ## POWERED, PENDING and CSMA_ACTIVE -/

/-- Powered, with no request pending and no CSMA run. -/
def Quiet (s : State) : Prop :=
  s.powered = true ∧ s.pending = .none ∧ s.csma.active = false

/-- A quiet chip may stand in every radio state but SHUTDOWN (10_state.md R23 to R25). -/
theorem Quiet.powerInv {s : State} (h : Quiet s) (hr : s.radio ≠ .shutdown) : PowerInv s := by
  obtain ⟨hp, hpend, hcsma⟩ := h
  simp [PowerInv, hp, hpend, hcsma, hr]

/-- The invariant reads four fields of the state. -/
theorem PowerInv.of_eq {s t : State} (h : PowerInv s) (hp : t.powered = s.powered) (hr : t.radio = s.radio)
    (hpend : t.pending = s.pending) (hcsma : t.csma.active = s.csma.active) : PowerInv t := by
  simpa only [PowerInv, hp, hr, hpend, hcsma] using h

theorem PowerInv.powered_of_ne {s : State} (h : PowerInv s) (hr : s.radio ≠ .shutdown) : s.powered = true := by
  simpa using mt h.1.1 hr

theorem PowerInv.pending_of_ne {s : State} (h : PowerInv s) (hr : s.radio ≠ .locking) : s.pending = .none := by
  simpa using mt h.2.1 hr

theorem PowerInv.csma_of_ne {s : State} (h : PowerInv s) (hr : s.radio ≠ .ready) : s.csma.active = false := by
  simpa using mt h.2.2 hr

/-- Outside LOCKING and READY the invariant leaves no request and no CSMA run (10_state.md R23, R25). -/
theorem PowerInv.quiet {s : State} (h : PowerInv s) (hshutdown : s.radio ≠ .shutdown) (hlocking : s.radio ≠ .locking)
    (hready : s.radio ≠ .ready) : Quiet s :=
  ⟨h.powered_of_ne hshutdown, h.pending_of_ne hlocking, h.csma_of_ne hready⟩

theorem readyIdle_iff (s : State) : readyIdle s = true ↔ s.radio = .ready ∧ s.csma.active = false := by
  simp [readyIdle]

/-- READY with no CSMA run is quiet (41_state_machine.md R171). -/
theorem PowerInv.quiet_of_readyIdle {s : State} (h : PowerInv s) (hidle : readyIdle s = true) : Quiet s := by
  obtain ⟨hready, hcsma⟩ := (readyIdle_iff s).1 hidle
  exact ⟨h.powered_of_ne (by simp [hready]), h.pending_of_ne (by simp [hready]), hcsma⟩

/-- A packet engine's step ends at most in READY, from TX or RX (42_packet_engine.md R233, R234, R246). -/
theorem PowerInv.of_engineStep {s t : State} (h : PowerInv s) (hs : EngineStep s t)
    (hr : s.radio = .tx ∨ s.radio = .rx) : PowerInv t := by
  have hquiet : Quiet s := by
    rcases hr with hr | hr <;> exact h.quiet (by simp [hr]) (by simp [hr]) (by simp [hr])
  obtain ⟨hp, hpend, hcsma⟩ := hquiet
  refine Quiet.powerInv ⟨hs.powered.trans hp, hs.pending.trans hpend, by rw [hs.csma, hcsma]⟩ ?_
  rcases hs.radio with hradio | hradio
  · rcases hr with hr | hr <;> simp [hradio, hr]
  · simp [hradio]

/-! ### Requests in READY -/

/-- A TX request of a quiet chip in READY is refused, starts a CSMA run there, or enters TX (41_state_machine.md R181, R182). -/
theorem powerInv_txStrobeInReady (s : State) (h : Quiet s) (hr : s.radio = .ready) : PowerInv (txStrobeInReady s) := by
  rcases txStrobeInReady_cases s with ⟨heq, -⟩ | ⟨-, ⟨heq, -⟩ | ⟨heq, -⟩⟩ <;> rw [heq]
  · exact Quiet.powerInv (s := setErr .cfgErr s) h (by simp [hr])
  · obtain ⟨hp, hpend, -⟩ := h
    simp [PowerInv, startCsma, beginAttempt, hp, hpend, hr]
  · exact Quiet.powerInv (s := startTx s) h (by simp)

/-- An RX request of a quiet chip in READY is refused, or enters RX (41_state_machine.md R180). -/
theorem powerInv_rxStrobeInReady (s : State) (h : Quiet s) (hr : s.radio = .ready) : PowerInv (rxStrobeInReady s) := by
  rcases rxStrobeInReady_cases s with ⟨heq, -⟩ | ⟨heq, -⟩ <;> rw [heq]
  · exact Quiet.powerInv (s := setErr .cfgErr s) h (by simp [hr])
  · exact Quiet.powerInv (s := startRx s) h (by simp)

/-- A lock result takes the request out of PENDING and leaves LOCKING (41_state_machine.md R186, R187). -/
theorem powerInv_lockResult (ok : Bool) (s : State) (h : PowerInv s) (hr : s.radio = .locking) :
    PowerInv (lockResult ok s) := by
  have hp : s.powered = true := h.powered_of_ne (by simp [hr])
  have hcsma : s.csma.active = false := h.csma_of_ne (by simp [hr])
  cases ok with
  | false => exact Quiet.powerInv (s := lockResult false s) ⟨hp, rfl, hcsma⟩ (by simp [lockResult])
  | true =>
    have hquiet : Quiet (setPending .none (signal .readyReached (setRadio .ready s))) := ⟨hp, rfl, hcsma⟩
    show PowerInv (carryOut s.pending _)
    cases s.pending with
    | none => exact hquiet.powerInv (by simp)
    | tx => exact powerInv_txStrobeInReady _ hquiet rfl
    | rx => exact powerInv_rxStrobeInReady _ hquiet rfl

/-! ### The CSMA engine -/

theorem powerInv_windowEnd (k : Nat) (s : State) (h : PowerInv s) (hr : s.radio = .ready) :
    PowerInv (windowEnd k s) := by
  have hp : s.powered = true := h.powered_of_ne (by simp [hr])
  have hpend : s.pending = .none := h.pending_of_ne (by simp [hr])
  have hquiet (v : Byte) : Quiet (endCsma v s) := ⟨hp, hpend, rfl⟩
  rcases windowEnd_cases k s with ⟨heq, -⟩ | ⟨-, ⟨heq, -⟩ | ⟨-, ⟨heq, -⟩ | ⟨heq, -⟩⟩⟩ <;> rw [heq]
  · exact Quiet.powerInv (s := channelIdle s) (hquiet 1#8) (by simp [channelIdle])
  · exact Quiet.powerInv (s := channelBusy s) (hquiet 2#8) (by simp [channelBusy, hr])
  · exact Quiet.powerInv (s := maxRetries s) (hquiet 3#8) (by simp [maxRetries, hr])
  · obtain ⟨d, -, ⟨-, heq⟩ | ⟨-, heq⟩⟩ := startBackoff_cases k s <;> rw [heq] <;> exact h.of_eq rfl rfl rfl rfl

theorem powerInv_csmaSample (v : Byte) (k : Nat) (s : State) (h : PowerInv s) (hr : s.radio = .ready) :
    PowerInv (csmaSample v k s) := by
  unfold csmaSample
  dsimp only
  split
  · exact powerInv_windowEnd k _ (h.of_eq rfl rfl rfl rfl) hr
  · exact h.of_eq rfl rfl rfl rfl

theorem powerInv_csmaTick (s : State) (h : PowerInv s) : PowerInv (csmaTick s) := by
  unfold csmaTick
  dsimp only
  split <;> exact h.of_eq rfl rfl rfl rfl

/-! ### Every step -/

theorem rxInFrame_iff (s : State) : rxInFrame s = true ↔ s.radio = .rx ∧ s.rx.phase ≠ .hunt := by
  simp [rxInFrame]

/-- An enabled engine or environment step keeps the invariant: where it is enabled says in which radio state it starts
(00_scope.md R11). -/
theorem powerInv_inputEffect (e : Input) (s : State) (h : PowerInv s) (he : inputEnabled e s = true) :
    PowerInv (inputEffect e s) := by
  cases e with
  | transaction bytes => exact h
  | txEmit => exact h.of_engineStep (engineStep_txEmit s) (.inl (by simpa [inputEnabled] using he))
  | lockResult ok => exact powerInv_lockResult ok s h (by simpa [inputEnabled] using he)
  | rssiSample v => exact h.of_eq rfl rfl rfl rfl
  | csmaSample v k =>
    simp only [inputEnabled, Bool.and_eq_true, decide_eq_true_eq] at he
    exact powerInv_csmaSample v k s h he.1.1
  | tick => exact powerInv_csmaTick s h
  | syncDetected => exact h.of_eq rfl rfl rfl rfl
  | rxByte b => exact h.of_engineStep (engineStep_rxByte b s) (.inr ((rxInFrame_iff s).1 he).1)
  | carrierLost => exact h.of_engineStep (engineStep_lengthMismatch s) (.inr ((rxInFrame_iff s).1 he).1)

theorem powerInv_envStep (e : Input) (s : State) (h : PowerInv s) : PowerInv (envStep e s) := by
  unfold envStep
  split
  · exact powerInv_inputEffect e s h ‹_›
  · exact h

theorem powerInv_readyEffect (s : State) (h : PowerInv s) : PowerInv (readyEffect s) := by
  unfold readyEffect
  split
  next hr =>
    have hquiet : Quiet s := by
      rcases hr with hr | hr <;> exact h.quiet (by simp [hr]) (by simp [hr]) (by simp [hr])
    exact Quiet.powerInv (s := setPending .none (setRadio .locking s)) ⟨hquiet.1, rfl, hquiet.2.2⟩ (by simp)
  · repeat' split
    all_goals exact h.of_eq rfl rfl rfl rfl

theorem powerInv_standbyEffect (s : State) (h : PowerInv s) : PowerInv (standbyEffect s) := by
  unfold standbyEffect
  split
  next hidle => exact Quiet.powerInv (s := setRadio .standby s) (h.quiet_of_readyIdle hidle) (by simp)
  · split <;> exact h.of_eq rfl rfl rfl rfl

theorem powerInv_sleepEffect (s : State) (h : PowerInv s) : PowerInv (sleepEffect s) := by
  unfold sleepEffect
  split
  next hidle =>
    have hquiet : Quiet s := h.quiet_of_readyIdle hidle
    split
    · exact Quiet.powerInv (s := setRadio .sleep s) hquiet (by simp)
    · exact Quiet.powerInv (s := setRadio .sleep (flushRxFifo (flushTxFifo s))) hquiet (by simp)
  · split <;> exact h.of_eq rfl rfl rfl rfl

/-- In LOCKING a request may be pending (41_state_machine.md R184). -/
theorem PowerInv.setPending {s : State} (h : PowerInv s) (p : Pending) (hr : s.radio = .locking) :
    PowerInv (setPending p s) :=
  ⟨h.1, fun _ => hr, h.2.2⟩

theorem powerInv_rxEffect (s : State) (h : PowerInv s) : PowerInv (rxEffect s) := by
  unfold rxEffect
  split
  next hidle => exact powerInv_rxStrobeInReady s (h.quiet_of_readyIdle hidle) ((readyIdle_iff s).1 hidle).1
  · split
    next hr => exact h.setPending .rx hr
    · exact h.of_eq rfl rfl rfl rfl

theorem powerInv_txEffect (s : State) (h : PowerInv s) : PowerInv (txEffect s) := by
  unfold txEffect
  split
  next hidle => exact powerInv_txStrobeInReady s (h.quiet_of_readyIdle hidle) ((readyIdle_iff s).1 hidle).1
  · split
    next hr => exact h.setPending .tx hr
    · exact h.of_eq rfl rfl rfl rfl

theorem powerInv_sabortEffect (s : State) (h : PowerInv s) : PowerInv (sabortEffect s) := by
  unfold sabortEffect
  cases hr : s.radio with
  | tx =>
    exact h.of_engineStep (.after (engineStep_signal .readyReached _) (.after (engineStep_toReady _) (.of_eq rfl rfl)))
      (.inl hr)
  | rx =>
    refine h.of_engineStep (.after (engineStep_signal .readyReached _) (.after (engineStep_toReady _) ?_)) (.inr hr)
    split <;> exact .of_eq rfl rfl
  | ready =>
    dsimp only
    split
    · exact ⟨h.1, h.2.1, by simp⟩
    · exact h
  | locking =>
    exact Quiet.powerInv (s := setRadio .standby (setPending .none s))
      ⟨h.powered_of_ne (by simp [hr]), rfl, h.csma_of_ne (by simp [hr])⟩ (by simp)
  | _ => exact h

/-- A reset, from power-up or SRES, ends in STANDBY with nothing going on (70_reset_and_hazards.md R391). -/
theorem powerInv_standby_resetAll (s : State) : PowerInv (setRadio .standby (resetAll s)) :=
  Quiet.powerInv ⟨rfl, rfl, rfl⟩ (by simp)

theorem powerInv_commandEffect (i : Instr) (s : State) (h : PowerInv s) : PowerInv (commandEffect i s) := by
  cases i with
  | sres tail => exact powerInv_standby_resetAll s
  | ready tail => exact powerInv_readyEffect s h
  | standby tail => exact powerInv_standbyEffect s h
  | sleep tail => exact powerInv_sleepEffect s h
  | rx tail => exact powerInv_rxEffect s h
  | tx tail => exact powerInv_txEffect s h
  | sabort tail => exact powerInv_sabortEffect s h
  | flushtx tail =>
    show PowerInv (flushtxEffect s)
    unfold flushtxEffect
    split <;> exact h.of_eq rfl rfl rfl rfl
  | _ => exact h.of_eq rfl rfl rfl rfl

theorem powerInv_offEffect (i : Instr) (s : State) (h : PowerInv s) : PowerInv (offEffect i s) := by
  cases i with
  | pwrup tail => exact powerInv_standby_resetAll s
  | _ => exact h

theorem Performed.powerInv {i : Instr} {s t : State} (hs : Performed i s t) (h : PowerInv s) : PowerInv t := by
  cases hs with
  | write hp a d =>
    rw [memWrite_frame]
    exact h
  | read hp a n =>
    rw [memRead_frame]
    exact h
  | command hp n => exact (powerInv_commandEffect i s h).of_eq rfl rfl rfl rfl
  | unpowered hp n => exact (powerInv_offEffect i s h).of_eq rfl rfl rfl rfl

/-- Settles O52: the invariant is kept in each of the ways a step goes on. -/
theorem stepKeepsPowerInv : Obligations.StepKeepsPowerInv := by
  intro s t h ht
  obtain ⟨-, ⟨-, rfl⟩ | ⟨e, rest, -, ⟨bytes, i, -, -, hexec⟩ | ⟨bytes, -, -, rfl⟩ | ⟨-, rfl⟩⟩⟩ := step_cases s t ht
  · exact h
  · exact (performed_of_exec i { s with input := rest } t hexec).2.powerInv h
  · exact h
  · exact powerInv_envStep e { s with input := rest } h

/-! ## The machine's invariant -/

/-- A CSMA run in the last tick of a backoff, with every attempt that `CSMA_MAX_RETRY` allows already taken. `CsmaInv` admits
it; `windowEnd` would have ended such a run in `maxRetries` and never waits there (43_csma_engine.md R283). -/
def backoffAfterLastAttempt : State :=
  { State.reset with
    powered := true
    radio := .ready
    regs := { Regs.reset 4 with csmaCfg := 0x03#8, csmaMaxRetry := 0x04#8, csmaAttempts := 0x04#8 }
    csma := { active := true, phase := .backoff, samplesLeft := 0, busySeen := true, ticksLeft := 1 }
    input := [.tick] }

theorem machineInv_backoffAfterLastAttempt : MachineInv backoffAfterLastAttempt :=
  ⟨by decide, by decide, by decide, by decide, by decide, by decide, by decide⟩

/-- The tick ends the wait and begins one more attempt, the fifth of four (43_csma_engine.md R282, R288). -/
theorem step_backoffAfterLastAttempt :
    step backoffAfterLastAttempt = .next (beginAttempt
      { backoffAfterLastAttempt with csma := { backoffAfterLastAttempt.csma with ticksLeft := 0 }, input := [] }) := rfl

/-- Refutes O53: `CsmaInv` lets a backoff have all of `CSMA_MAX_RETRY`'s attempts taken, and the end of the wait counts one more. -/
theorem not_stepKeepsMachineInv : ¬ Obligations.StepKeepsMachineInv := by
  intro h
  obtain ⟨-, -, -, -, hcsma, -, -⟩ := h _ _ machineInv_backoffAfterLastAttempt step_backoffAfterLastAttempt
  obtain ⟨-, -, -, hattempts, -⟩ := hcsma rfl
  exact absurd hattempts (by decide)

end Sys2Proof.Machine
end

section
/-! PROOFS of the family `20_memory.md`. Transfers at the FIFO port and the bounds a host can break there (O19), accesses
that reach no writable register (O13), and the bounds of a burst (O20). -/

namespace Sys2Proof.Machine

open Sys2Proof

/-! ## Transfers at the FIFO port -/

/-- Bytes that find room at the FIFO port are appended to the TX FIFO, before the bytes that follow them
(20_memory.md R73, 40_bus_transactions.md R145). -/
theorem writeBytes_fifoPort_append (xs ys : Bytes) (s : State) (h : s.txFifo.length + xs.length ≤ s.cfg.fifoCap) :
    writeBytes fifoPort (xs ++ ys) s = writeBytes fifoPort ys { s with txFifo := s.txFifo ++ xs } := by
  induction xs generalizing s with
  | nil => simp
  | cons x xs ih =>
    rw [List.length_cons] at h
    have hpush : regWriteByte fifoPort x s = some { s with txFifo := s.txFifo ++ [x] } :=
      (txFifoWrite_eq_some x s _).2 ⟨by omega, rfl⟩
    have hroom : (s.txFifo ++ [x]).length + xs.length ≤ s.cfg.fifoCap := by
      rw [List.length_append, List.length_singleton]
      omega
    calc writeBytes fifoPort (x :: xs ++ ys) s
      _ = writeBytes fifoPort (xs ++ ys) { s with txFifo := s.txFifo ++ [x] } := by
        rw [List.cons_append, writeBytes, hpush]
        rfl
      _ = writeBytes fifoPort ys { s with txFifo := s.txFifo ++ (x :: xs) } := by
        rw [ih _ hroom, List.append_assoc, List.singleton_append]

/-- The first byte that finds the TX FIFO full ends the write (20_memory.md R78). -/
theorem writeBytes_fifoPort_of_full (d : Bytes) (s : State) (hd : d ≠ []) (h : s.txFifo.length = s.cfg.fifoCap) :
    writeBytes fifoPort d s = raiseHostFault .fifoBounds s := by
  cases d with
  | nil => exact absurd rfl hd
  | cons x xs =>
    have hfull : regWriteByte fifoPort x s = none := if_pos h
    rw [writeBytes, hfull]

/-- A FIFO_WRITE past the capacity keeps the bytes that fit (20_memory.md R78). -/
theorem writeBytes_fifoPort_of_overflow (d : Bytes) (s : State) (hs : s.txFifo.length ≤ s.cfg.fifoCap)
    (hd : s.cfg.fifoCap < s.txFifo.length + d.length) :
    writeBytes fifoPort d s =
      raiseHostFault .fifoBounds
        { s with txFifo := s.txFifo ++ d.take (s.cfg.fifoCap - s.txFifo.length) } := by
  obtain ⟨k, hk⟩ : ∃ k, s.cfg.fifoCap = s.txFifo.length + k := Nat.exists_eq_add_of_le hs
  have htake : (d.take k).length = k := List.length_take_of_le (by omega)
  rw [show s.cfg.fifoCap - s.txFifo.length = k by omega]
  calc writeBytes fifoPort d s
    _ = writeBytes fifoPort (d.take k ++ d.drop k) s := by rw [List.take_append_drop]
    _ = writeBytes fifoPort (d.drop k) { s with txFifo := s.txFifo ++ d.take k } :=
      writeBytes_fifoPort_append _ _ s (by omega)
    _ = raiseHostFault .fifoBounds { s with txFifo := s.txFifo ++ d.take k } :=
      writeBytes_fifoPort_of_full _ _ (by rw [ne_eq, List.drop_eq_nil_iff]; omega)
        (by rw [List.length_append, htake, hk])

/-- The head bytes of the RX FIFO are read at the FIFO port in order and removed, before the reads that follow them
(20_memory.md R73, 40_bus_transactions.md R147). -/
theorem readBytes_fifoPort_append (xs ys : List Byte) (n : Nat) (s : State) (h : s.rxFifo = xs ++ ys) :
    readBytes fifoPort (xs.length + n) s =
      (xs ++ (readBytes fifoPort n { s with rxFifo := ys }).1, (readBytes fifoPort n { s with rxFifo := ys }).2) := by
  induction xs generalizing s with
  | nil =>
    rw [List.nil_append] at h
    subst h
    simp
  | cons x xs ih =>
    have hpop : regReadByte fifoPort s = some (x, { s with rxFifo := xs ++ ys }) :=
      (rxFifoRead_eq_some x s _).2 ⟨xs ++ ys, h, rfl⟩
    have hport : nextAddr fifoPort = fifoPort := rfl
    rw [List.length_cons, Nat.add_right_comm, readBytes, hpop]
    simp only [hport, ih { s with rxFifo := xs ++ ys } rfl, List.cons_append]

/-- The first read that finds the RX FIFO empty ends the read (20_memory.md R78). -/
theorem readBytes_fifoPort_of_empty (n : Nat) (s : State) (hn : 0 < n) (h : s.rxFifo = []) :
    readBytes fifoPort n s = ([], raiseHostFault .fifoBounds s) := by
  cases n with
  | zero => exact absurd hn (Nat.lt_irrefl 0)
  | succ n =>
    have hempty : regReadByte fifoPort s = none := by
      show rxFifoRead s = none
      simp only [rxFifoRead, h]
    rw [readBytes, hempty]

/-- A FIFO_READ past the contents returns and removes what was there (20_memory.md R78). -/
theorem readBytes_fifoPort_of_underflow (n : Nat) (s : State) (h : s.rxFifo.length < n) :
    readBytes fifoPort n s = (s.rxFifo, raiseHostFault .fifoBounds { s with rxFifo := [] }) := by
  obtain ⟨k, rfl⟩ : ∃ k, n = s.rxFifo.length + k := Nat.exists_eq_add_of_le h.le
  rw [readBytes_fifoPort_append s.rxFifo [] k s (List.append_nil _).symm,
    readBytes_fifoPort_of_empty k _ (by omega) rfl, List.append_nil]

/-- Settles O19: both transfers up to the bound, then the byte that breaks it. -/
theorem fifoBoundsViolationIsRecorded : Obligations.FifoBoundsViolationIsRecorded := by
  intro s bytes hlive hfit
  have hfaults : s.faults ++ [(.fifoBounds, s.txnIndex)] = [(.fifoBounds, s.txnIndex)] := by rw [hlive.1, List.nil_append]
  rw [← hfaults]
  refine ⟨fun hs hover => ?write, fun hunder => ?read⟩
  case write =>
    calc exec (.fifoWrite bytes) s
      _ = .next (memWrite fifoPort bytes s) := transact_of_live id (memWrite fifoPort bytes) bytes.length s hlive
      _ = _ := by
        rw [memWrite_of_fits fifoPort bytes s hfit, writeBytes_fifoPort_of_overflow bytes s hs hover]
        rfl
  case read =>
    calc exec (.fifoRead bytes) s
      _ = .next (memRead fifoPort bytes.length s) :=
        transact_of_live id (memRead fifoPort bytes.length) bytes.length s hlive
      _ = _ := by
        rw [memRead_of_fits fifoPort bytes.length s hfit, readBytes_fifoPort_of_underflow bytes.length s hunder]
        rfl

/-! ## Unmapped addresses and registers that are only read -/

/-- The address table ends with the last pin's register below 0x20 and with 0x2C above it (20_memory.md R74, R80). -/
theorem regAt_eq_none (n : Nat) (a : Byte) (ha : 0x18 + n ≤ a.toNat ∧ a.toNat ≤ 0x1F ∨ 0x2D ≤ a.toNat) :
    regAt n a = none := by
  unfold regAt
  split
  case h_38 =>
    refine if_neg fun ⟨_, hhigh, hpin⟩ => ?_
    rcases ha with ⟨habove, -⟩ | habove
    · exact habove.not_gt hpin
    · exact absurd (habove.trans hhigh) (by decide)
  all_goals omega

/-- A READ of an unmapped address draws the byte it returns (20_memory.md R74). -/
theorem exec_read_unmapped (s : State) (a dummy : Byte) (h : Live s) (ha : a ≠ fifoPort) (hfit : BurstFits a 1 s)
    (hr : regAt s.cfg.numGpio a = none) : exec (.read a dummy) s = .next (after s 1 s) := by
  have hbytes : readBytes a 1 s = ([Config.freeByte s.drawIndex], { s with drawIndex := s.drawIndex + 1 }) := by
    simp only [readBytes, regReadByte, ha, if_false, hr]
  calc exec (.read a dummy) s
    _ = .next (memRead a 1 s) := transact_of_live id (memRead a 1) 1 s h
    _ = .next (after s 1 s) := by
      rw [memRead_of_fits a 1 s hfit, hbytes]
      rfl

/-- A WRITE to an unmapped address is ignored (20_memory.md R74). -/
theorem exec_write_unmapped (s : State) (a d : Byte) (h : Live s) (ha : a ≠ fifoPort) (hfit : BurstFits a 1 s)
    (hr : regAt s.cfg.numGpio a = none) : exec (.write a d) s = .next (after s 1 s) := by
  have hbytes : writeBytes a [d] s = s := by simp only [writeBytes, regWriteByte, ha, if_false, hr]
  calc exec (.write a d) s
    _ = .next (memWrite a [d] s) := transact_of_live id (memWrite a [d]) 1 s h
    _ = .next (after s 1 s) := by
      rw [memWrite_of_fits a [d] s hfit, hbytes]
      rfl

/-- A write to an RO or RC register is ignored (20_memory.md R74, 40_bus_transactions.md R142). -/
theorem writeReg_of_not_rw (a : Byte) (r : Reg) (v : Byte) (s : State) (hr : regAccess r ≠ .rw) :
    writeReg a r v s = s :=
  if_neg hr

/-- Settles O13: the address table, an access at an unmapped address, and a write that its register ignores. -/
theorem unmappedAndReadOnlyAccesses : Obligations.UnmappedAndReadOnlyAccesses := by
  refine ⟨fun n a ha => regAt_eq_none n a (ha.imp_right And.left), fun s a d hlive ha hfit => ⟨fun hr => ?_, ?_⟩⟩
  · exact ⟨exec_read_unmapped s a d hlive ha hfit hr, exec_write_unmapped s a d hlive ha hfit hr⟩
  · intro r hr hro
    rw [exec_write_mapped s a d r hlive ha hfit hr, writeReg_of_not_rw a r d s hro]

/-! ## The bounds of a burst -/

/-- More than `MAX_BURST` bytes fail the first check, at the FIFO port too (20_memory.md R79). -/
theorem burstCheck_of_too_long (a : Byte) (n m : Nat) (s : State) (hm : s.cfg.maxBurst = some m) (hn : m < n) :
    burstCheck a n s = some .burstLength := by
  simp [burstCheck, hm, hn]

/-- A burst of an allowed length that runs past 0xFE fails the second check (20_memory.md R79). -/
theorem burstCheck_of_out_of_range (a : Byte) (n : Nat) (s : State) (hlen : ∀ m ∈ s.cfg.maxBurst, n ≤ m)
    (ha : a ≠ fifoPort) (hend : 0xFE < a.toNat + n - 1) : burstCheck a n s = some .burstRange := by
  cases hm : s.cfg.maxBurst with
  | none => simp [burstCheck, hm, ha, hend]
  | some m => simp [burstCheck, hm, ha, hend, (hlen m hm).not_gt]

/-- A transaction stopped before any byte records the fault, returns nothing and advances the host's index
(20_memory.md R79, notes/assumptions/8.md). -/
theorem finishFaulted_eq (info : HostFault) (s : State) (hf : s.faults = []) :
    finishFaulted info s =
      { s with faults := [(info, s.txnIndex)], reply := [], txnIndex := s.txnIndex + 1 } := by
  rw [finishFaulted, finish, raiseHostFault, hf, List.nil_append]

theorem memWrite_of_burstCheck (a : Byte) (d : Bytes) (info : HostFault) (s : State)
    (h : burstCheck a d.length s = some info) : memWrite a d s = finishFaulted info s := by
  simp only [memWrite, h]

theorem memRead_of_burstCheck (a : Byte) (n : Nat) (info : HostFault) (s : State) (h : burstCheck a n s = some info) :
    memRead a n s = finishFaulted info s := by
  simp only [memRead, h]

/-- Settles O20: the check that the burst fails is all that its write or its read performs. -/
theorem burstBoundsViolationIsRecorded : Obligations.BurstBoundsViolationIsRecorded := by
  intro s a bytes info hlive _ hbroken t
  have hwrite (b : Byte) (h : burstCheck b bytes.length s = some info) :
      transact id bytes.length (memWrite b bytes) s = .next t := by
    rw [transact_of_live id _ _ s hlive, memWrite_of_burstCheck b bytes info s h, finishFaulted_eq info s hlive.1]
  have hread (b : Byte) (h : burstCheck b bytes.length s = some info) :
      transact id bytes.length (memRead b bytes.length) s = .next t := by
    rw [transact_of_live id _ _ s hlive, memRead_of_burstCheck b _ info s h, finishFaulted_eq info s hlive.1]
  rcases hbroken with ⟨rfl, m, hm, hlong⟩ | ⟨rfl, hshort, ha, hend⟩
  · have hcheck (b : Byte) : burstCheck b bytes.length s = some .burstLength :=
      burstCheck_of_too_long b bytes.length m s hm hlong
    exact ⟨hwrite a (hcheck a), hread a (hcheck a),
      fun _ => ⟨hwrite fifoPort (hcheck fifoPort), hread fifoPort (hcheck fifoPort)⟩⟩
  · have hcheck : burstCheck a bytes.length s = some .burstRange :=
      burstCheck_of_out_of_range a bytes.length s hshort ha hend
    exact ⟨hwrite a hcheck, hread a hcheck, fun h => nomatch h⟩

end Sys2Proof.Machine
end

section
/-! PROOFS of the family `30_encoding.md`. The encoder as the inverse of the decoder (O2), and words written out from the
spec (O3). -/

namespace Sys2Proof.Machine

open Sys2Proof

/-! ## What the decoder reads -/

/-- The instruction `i` is well formed and has exactly the bytes `bytes` (30_encoding.md R102 to R106). -/
def IsReading (m : StrobeCode) (bytes : Bytes) (i : Instr) : Prop :=
  encode m i = bytes ∧ i.wellFormed m = true

/-- A header 0x00: a FIFO_WRITE at the port only, a burst with two data bytes or more only (30_encoding.md R104). -/
theorem isReading_decodeWrite (m : StrobeCode) (a : Byte) (d : Bytes) :
    IsReading m (0x00#8 :: a :: d) (decodeWrite a d) := by
  by_cases ha : a = 0xFF#8
  · match d with
    | [] => exact ⟨rfl, rfl⟩
    | b :: r =>
      rw [ha, decodeWrite_fifoPort (b :: r) (by simp)]
      exact ⟨rfl, by simp [Instr.wellFormed]⟩
  · match d with
    | [] => exact ⟨rfl, rfl⟩
    | [_] => simp [IsReading, decodeWrite, encode, Instr.wellFormed, ha]
    | b :: c :: r =>
      rw [decodeWrite_burst a (b :: c :: r) ha (by simp)]
      exact ⟨rfl, by simp [Instr.wellFormed, ha]⟩

/-- A header 0x01: a FIFO_READ at the port only, a burst with two dummy bytes or more only (30_encoding.md R105). -/
theorem isReading_decodeRead (m : StrobeCode) (a : Byte) (d : Bytes) :
    IsReading m (0x01#8 :: a :: d) (decodeRead a d) := by
  by_cases ha : a = 0xFF#8
  · match d with
    | [] => exact ⟨rfl, rfl⟩
    | b :: r =>
      rw [ha, decodeRead_fifoPort (b :: r) (by simp)]
      exact ⟨rfl, by simp [Instr.wellFormed]⟩
  · match d with
    | [] => exact ⟨rfl, rfl⟩
    | [_] => simp [IsReading, decodeRead, encode, Instr.wellFormed, ha]
    | b :: c :: r =>
      rw [decodeRead_burst a (b :: c :: r) ha (by simp)]
      exact ⟨rfl, by simp [Instr.wellFormed, ha]⟩

theorem wellFormed_of_mem_strobeTable (m : StrobeCode) (c : Byte) (tail : Bytes) (i : Instr)
    (hi : ⟨c, i⟩ ∈ strobeTable m tail) : i.wellFormed m = true := by
  have hall : ∀ p ∈ strobeTable m tail, p.2.wellFormed m = true := by simp [strobeTable, Instr.wellFormed]
  exact hall _ hi

/-- Only a code outside the map is read as a reserved one (30_encoding.md R106, R113). -/
theorem wellFormed_decodeStrobe (m : StrobeCode) (c : Byte) (tail : Bytes) :
    (decodeStrobe m c tail).wellFormed m = true := by
  cases hc : definedStrobeCode m c with
  | false =>
    rw [(decodeStrobe_eq_reservedStrobe_iff m c tail).2 hc]
    simp [Instr.wellFormed, hc]
  | true =>
    have hkey : c ∈ (strobeTable m tail).keys := show c ∈ m.codes from List.contains_iff_mem.1 hc
    obtain ⟨i, hi⟩ := Option.isSome_iff_exists.1 (List.dlookup_isSome.2 hkey)
    rw [decodeStrobe_eq_dlookup, hi]
    exact wellFormed_of_mem_strobeTable m c tail i (List.of_mem_dlookup hi)

/-- A header 0x80: the strobe of its code, or a reserved one (30_encoding.md R106). -/
theorem isReading_decodeStrobe (m : StrobeCode) (c : Byte) (tail : Bytes) :
    IsReading m (encodeStrobe c tail) (decodeStrobe m c tail) :=
  ⟨encode_decodeStrobe m c tail, wellFormed_decodeStrobe m c tail⟩

/-- An undefined header: a reserved one, with every byte kept (40_bus_transactions.md R150). -/
theorem isReading_reservedHeader (m : StrobeCode) (h a : Byte) (d : Bytes) (hh : definedHeader h = false) :
    IsReading m (h :: a :: d) (.reservedHeader h a d) :=
  ⟨rfl, by simp [Instr.wellFormed, hh]⟩

/-- The four kinds of header (30_encoding.md R102). -/
theorem header_cases (h : Byte) : h = 0x00#8 ∨ h = 0x01#8 ∨ h = 0x80#8 ∨ definedHeader h = false := by
  cases hd : definedHeader h with
  | false => exact .inr (.inr (.inr rfl))
  | true => simpa [definedHeader, or_assoc] using hd

/-- A byte string with a reading has a header and a second byte (30_encoding.md R103). -/
theorem exists_cons_cons_of_decode_eq_ok (m : StrobeCode) (bytes : Bytes) (i : Instr) (h : decode m bytes = .ok i) :
    ∃ header second d, bytes = header :: second :: d := by
  match bytes, h with
  | header :: second :: d, _ => exact ⟨header, second, d, rfl⟩

/-- Settles O2: one case for each kind of header, whose reading keeps every byte. -/
theorem encodeOfDecodeIsIdentity : Obligations.EncodeOfDecodeIsIdentity := by
  intro m bytes i hdec
  have reading_of_decode (j : Instr) (hj : decode m bytes = .ok j) (hr : IsReading m bytes j) : IsReading m bytes i :=
    Except.ok.inj (hj.symm.trans hdec) ▸ hr
  obtain ⟨h, a, d, rfl⟩ := exists_cons_cons_of_decode_eq_ok m bytes i hdec
  rcases header_cases h with rfl | rfl | rfl | hh
  · exact reading_of_decode _ (decode_write_header m a d) (isReading_decodeWrite m a d)
  · exact reading_of_decode _ (decode_read_header m a d) (isReading_decodeRead m a d)
  · exact reading_of_decode _ (decode_encodeStrobe m a d) (isReading_decodeStrobe m a d)
  · exact reading_of_decode _ (decode_of_not_definedHeader m h a d hh) (isReading_reservedHeader m h a d hh)

/-! ## Words of the spec -/

/-- Settles O3: each word is the encoding of its well-formed instruction, which `decodeOfEncodeIsIdentity` reads back. -/
theorem specWordsDecode : Obligations.SpecWordsDecode := by
  unfold Obligations.SpecWordsDecode
  intro m
  have hm : m.distinct = true := rfl
  have hword (i : Instr) (hi : i.wellFormed m = true) : decode m (encode m i) = .ok i :=
    decodeOfEncodeIsIdentity m i hm hi
  exact ⟨hword (.poll .write 0x00#8) rfl, hword (.write 0x0F#8 0x35#8) rfl,
    hword (.burstWrite 0x0E#8 [0x03#8, 0x53#8, 0x03#8]) rfl, hword (.fifoWrite [0xDE#8]) rfl,
    hword (.read 0x2C#8 0x00#8) rfl, hword (.burstRead 0x2A#8 [0x00#8, 0x00#8, 0x00#8]) rfl,
    hword (.fifoRead [0x00#8]) rfl, hword (.pwrup []) rfl, hword (.reservedStrobe 0x65#8 []) rfl,
    hword (.reservedHeader 0x02#8 0x00#8 []) rfl, rfl⟩

end Sys2Proof.Machine
end

section
/-! PROOFS of the family `40_bus_transactions.md`. Bursts byte by byte (O16, O17), transfers at the FIFO port that fit
(O18), one-byte accesses to a register (O9, O14), the status poll (O7), and transactions in SHUTDOWN (O8). -/

namespace Sys2Proof.Machine

open Sys2Proof

/-! ## The addresses of a burst -/

theorem nextAddr_eq_add_one (a : Byte) (ha : a ≠ fifoPort) : nextAddr a = a + 1 := if_neg ha

/-- Byte `i` after the first stands at byte `i + 1`'s address of the burst (20_memory.md R79). -/
theorem add_one_add_ofNat (a : Byte) (i : Nat) : a + 1 + BitVec.ofNat 8 i = a + BitVec.ofNat 8 (i + 1) := by
  rw [BitVec.ofNat_add, BitVec.add_assoc, BitVec.add_comm 1]
  rfl

/-- A burst of one byte or more that ends below the port begins below it, and so does its rest (20_memory.md R79). -/
theorem burst_rest_of_fits (a : Byte) (n : Nat) (h : a.toNat + (n + 1) ≤ 0xFF) :
    a ≠ fifoPort ∧ (a + 1).toNat = a.toNat + 1 ∧ (a + 1).toNat + n ≤ 0xFF := by
  have ha : a ≠ fifoPort := ne_fifoPort_of_lt a (by omega)
  have hnext : (a + 1).toNat = a.toNat + 1 := by rw [← nextAddr_eq_add_one a ha, nextAddr_toNat a (by omega)]
  exact ⟨ha, hnext, by omega⟩

/-- No later byte of a burst comes back to the address of the first (20_memory.md R79). -/
theorem add_ofNat_ne (a : Byte) (i : Nat) (h : a.toNat + (i + 1) < 0xFF) : a + BitVec.ofNat 8 (i + 1) ≠ a := by
  intro heq
  have hsum := congrArg BitVec.toNat heq
  rw [BitVec.toNat_add, BitVec.toNat_ofNat] at hsum
  omega

/-- No later byte of a burst comes back to the register of the first. -/
theorem regAt_add_one_add_ne (k n i : Nat) (a : Byte) (r : Reg) (hfit : a.toNat + (n + 1) ≤ 0xFF) (hi : i < n)
    (hr : regAt k a = some r) : regAt k (a + 1 + BitVec.ofNat 8 i) ≠ some r := by
  rw [add_one_add_ofNat]
  exact fun h => add_ofNat_ne a i (by omega) (regAt_inj k _ a r h hr)

/-! ## What a write of one register does to the others -/

/-- A store reaches the register: it is RW and, for a pin's, the pin exists (10_state.md R55, 20_memory.md R74). -/
def Stored (g : Regs) (r : Reg) : Prop :=
  regAccess r = .rw ∧ ∀ n, r = .gpioCfg n → n < g.gpioCfg.length

theorem regSet_of_not_stored (g : Regs) (r : Reg) (v : Byte) (h : ¬ Stored g r) : regSet g r v = g := by
  cases r
  case gpioCfg n =>
    have hn : g.gpioCfg.length ≤ n := by simpa [Stored, regAccess] using h
    rw [regSet, List.set_eq_of_length_le hn]
  case txFifoCount | rxFifoCount | rssiLevel | rxLen1 | rxLen0 | rxAddr | rxCtrl | rxResult => rfl
  case csmaResult | csmaAttempts | eventFlags1 | eventFlags0 | errFlags => rfl
  all_goals exact absurd ⟨rfl, nofun⟩ h

/-- A store leaves every other register, also where it does not reach its own. -/
theorem regGet_regSet_of_ne (g : Regs) (r q : Reg) (v : Byte) (hq : q ≠ r) :
    regGet (regSet g r v) q = regGet g q := by
  by_cases h : Stored g r
  · rw [regGet_regSet g r q v h.1 h.2, if_neg hq]
  · rw [regSet_of_not_stored g r v h]

/-- What a register reads after a store to it depends only on what it read before and on the number of pins. -/
theorem regGet_regSet_self_congr (g g' : Regs) (r : Reg) (v : Byte) (hr : regGet g' r = regGet g r)
    (hpins : g'.gpioCfg.length = g.gpioCfg.length) : regGet (regSet g' r v) r = regGet (regSet g r v) r := by
  have hstored : Stored g' r ↔ Stored g r := by rw [Stored, Stored, hpins]
  by_cases h : Stored g r
  · have h' : Stored g' r := hstored.2 h
    rw [regGet_regSet g r r v h.1 h.2, regGet_regSet g' r r v h'.1 h'.2, if_pos rfl, if_pos rfl]
  · rw [regSet_of_not_stored g r v h, regSet_of_not_stored g' r v (mt hstored.1 h), hr]

theorem regSet_gpioCfg_length (g : Regs) (r : Reg) (v : Byte) :
    (regSet g r v).gpioCfg.length = g.gpioCfg.length := by
  cases r
  case gpioCfg n => exact List.length_set
  all_goals rfl

/-! ## A write of one register -/

/-- A write of a register on its own reports CFG_ERR: it is rejected, or it rebinds an enabled pin
(40_bus_transactions.md R142). -/
def raisesCfgErr (a : Byte) (r : Reg) (v : Byte) (s : State) : Bool :=
  decide (regAccess r = .rw) &&
    (lockedAddr a && busy s || !regLegal s.cfg.fifoCap r (v &&& regMask r) || rebinds r (v &&& regMask r) s)

theorem writeReg_cfgErr (a : Byte) (r : Reg) (v : Byte) (s : State) :
    (writeReg a r v s).err.cfgErr = (s.err.cfgErr || raisesCfgErr a r v s) := by
  rcases writeReg_cases a r v s with ⟨h, hro⟩ | ⟨h, hrw, hrejected⟩ | ⟨h, hrw, hlock, hlegal⟩ <;> rw [h]
  · simp [raisesCfgErr, hro]
  · rcases hrejected with ⟨hlocked, hbusy⟩ | hillegal
    · simp [raisesCfgErr, ErrFlags.raise, hrw, hlocked, hbusy]
    · simp [raisesCfgErr, ErrFlags.raise, hrw, hillegal]
  · have hunlocked : (lockedAddr a && busy s) = false := by simpa using hlock
    simp [raisesCfgErr, storeReg_eq, hrw, hlegal, hunlocked]

/-- A write of a register reaches the registers and CFG_ERR (40_bus_transactions.md R142). -/
theorem writeReg_frame (a : Byte) (r : Reg) (v : Byte) (s : State) :
    writeReg a r v s =
      { s with
        regs := (writeReg a r v s).regs
        err := { s.err with cfgErr := (writeReg a r v s).err.cfgErr } } := by
  rcases writeReg_cases a r v s with ⟨h, -⟩ | ⟨h, -⟩ | ⟨h, -⟩ <;> rw [h]
  · rfl
  · rw [storeReg_eq]

/-- `u` stands as `s` in all that a write of register `r` looks at (40_bus_transactions.md R142). -/
structure SameFor (r : Reg) (s u : State) : Prop where
  cfg : u.cfg = s.cfg
  busy : busy u = busy s
  value : regGet u.regs r = regGet s.regs r
  pins : u.regs.gpioCfg.length = s.regs.gpioCfg.length

theorem SameFor.refl (r : Reg) (s : State) : SameFor r s s := ⟨rfl, rfl, rfl, rfl⟩

theorem SameFor.trans {r : Reg} {s u w : State} (h : SameFor r s u) (h' : SameFor r u w) : SameFor r s w :=
  ⟨h'.cfg.trans h.cfg, h'.busy.trans h.busy, h'.value.trans h.value, h'.pins.trans h.pins⟩

/-- A write of one register is nothing to the write of another (40_bus_transactions.md R144). -/
theorem sameFor_writeReg_of_ne (a : Byte) (q r : Reg) (v : Byte) (s : State) (hr : r ≠ q) :
    SameFor r s (writeReg a q v s) := by
  rcases writeReg_cases a q v s with ⟨h, -⟩ | ⟨h, -⟩ | ⟨h, -⟩ <;> rw [h]
  · exact .refl r s
  · exact ⟨rfl, rfl, rfl, rfl⟩
  · rw [storeReg_eq]
    exact ⟨rfl, rfl, regGet_regSet_of_ne s.regs q r _ hr, regSet_gpioCfg_length s.regs q _⟩

theorem SameFor.raisesCfgErr {r : Reg} {s u : State} (h : SameFor r s u) (a v : Byte) :
    raisesCfgErr a r v u = raisesCfgErr a r v s := by
  have hrebinds (w : Byte) : rebinds r w u = rebinds r w s := by
    cases r
    case gpioCfg n => rw [rebinds, rebinds, h.value]
    all_goals rfl
  rw [Machine.raisesCfgErr, Machine.raisesCfgErr, h.cfg, h.busy, hrebinds]

theorem SameFor.regGet_writeReg {r : Reg} {s u : State} (h : SameFor r s u) (a v : Byte) :
    regGet (writeReg a r v u).regs r = regGet (writeReg a r v s).regs r := by
  have hstore (w : Byte) : regGet (storeReg r w u).regs r = regGet (storeReg r w s).regs r := by
    rw [storeReg_eq, storeReg_eq]
    exact regGet_regSet_self_congr s.regs u.regs r w h.value h.pins
  unfold writeReg
  rw [h.cfg, h.busy]
  split
  · split
    · exact h.value
    · split
      · exact hstore _
      · exact h.value
  · exact h.value

/-! ## BURST_WRITE -/

/-- What a written byte does at an address other than the port's (40_bus_transactions.md R142). -/
def writeAt (a v : Byte) (s : State) : State :=
  match regAt s.cfg.numGpio a with
  | none => s
  | some r => writeReg a r v s

theorem writeAt_of_regAt (a v : Byte) (s : State) (r : Reg) (hr : regAt s.cfg.numGpio a = some r) :
    writeAt a v s = writeReg a r v s := by
  simp only [writeAt, hr]

/-- Below the port no byte of a burst fails, and the next one goes to the next address (40_bus_transactions.md R144). -/
theorem writeBytes_cons (a d : Byte) (ds : Bytes) (s : State) (ha : a ≠ fifoPort) :
    writeBytes a (d :: ds) s = writeBytes (a + 1) ds (writeAt a d s) := by
  have hbyte : regWriteByte a d s = some (writeAt a d s) := by
    unfold regWriteByte writeAt
    rw [if_neg ha]
    cases regAt s.cfg.numGpio a <;> rfl
  rw [writeBytes, hbyte, nextAddr_eq_add_one a ha]

theorem writeAt_frame (a v : Byte) (s : State) :
    writeAt a v s =
      { s with
        regs := (writeAt a v s).regs
        err := { s.err with cfgErr := (writeAt a v s).err.cfgErr } } := by
  unfold writeAt
  cases regAt s.cfg.numGpio a with
  | none => rfl
  | some r => exact writeReg_frame a r v s

/-- A byte is nothing to the write of a register at another address. -/
theorem sameFor_writeAt (a v : Byte) (s : State) (r : Reg) (hr : regAt s.cfg.numGpio a ≠ some r) :
    SameFor r s (writeAt a v s) := by
  unfold writeAt
  cases hq : regAt s.cfg.numGpio a with
  | none => exact .refl r s
  | some q => exact sameFor_writeReg_of_ne a q r v s fun h => hr (h ▸ hq)

theorem writeAt_cfg (a v : Byte) (s : State) : (writeAt a v s).cfg = s.cfg := by
  rw [writeAt_frame]

theorem writeAt_cfgErr_iff (a v : Byte) (s : State) :
    (writeAt a v s).err.cfgErr = true ↔
      s.err.cfgErr = true ∨ ∃ r, regAt s.cfg.numGpio a = some r ∧ raisesCfgErr a r v s = true := by
  unfold writeAt
  cases regAt s.cfg.numGpio a with
  | none => simp
  | some r => simp [writeReg_cfgErr]

/-- A burst below the port reaches the registers and CFG_ERR (40_bus_transactions.md R144). -/
theorem writeBytes_burst_frame (ds : Bytes) (a : Byte) (s : State) (hfit : a.toNat + ds.length ≤ 0xFF) :
    writeBytes a ds s =
      { s with
        regs := (writeBytes a ds s).regs
        err := { s.err with cfgErr := (writeBytes a ds s).err.cfgErr } } := by
  induction ds generalizing a s with
  | nil => rfl
  | cons d ds ih =>
    obtain ⟨ha, -, hrest⟩ := burst_rest_of_fits a ds.length hfit
    rw [writeBytes_cons a d ds s ha]
    have hbyte := writeAt_frame a d s
    have hburst := ih (a + 1) (writeAt a d s) hrest
    generalize writeBytes (a + 1) ds (writeAt a d s) = u at hburst ⊢
    rw [hbyte] at hburst
    exact hburst

/-- A burst that does not cover a register is nothing to a write of it. -/
theorem sameFor_writeBytes (ds : Bytes) (a : Byte) (s : State) (r : Reg) (hfit : a.toNat + ds.length ≤ 0xFF)
    (hr : ∀ i < ds.length, regAt s.cfg.numGpio (a + BitVec.ofNat 8 i) ≠ some r) : SameFor r s (writeBytes a ds s) := by
  induction ds generalizing a s with
  | nil => exact .refl r s
  | cons d ds ih =>
    obtain ⟨ha, -, hrest⟩ := burst_rest_of_fits a ds.length hfit
    have hfirst : regAt s.cfg.numGpio a ≠ some r := by simpa using hr 0 (Nat.succ_pos _)
    rw [writeBytes_cons a d ds s ha]
    refine (sameFor_writeAt a d s r hfirst).trans (ih (a + 1) (writeAt a d s) hrest fun i hi => ?_)
    rw [writeAt_cfg, add_one_add_ofNat]
    exact hr (i + 1) (Nat.succ_lt_succ hi)

/-- A register that a burst covers holds what its byte alone would leave there: the bytes before are nothing to it, and
the bytes after do not reach it (40_bus_transactions.md R144). -/
theorem regGet_writeBytes_of_covered (ds : Bytes) (a : Byte) (s : State) (i : Nat) (d : Byte) (r : Reg)
    (hfit : a.toNat + ds.length ≤ 0xFF) (hd : ds[i]? = some d)
    (hr : regAt s.cfg.numGpio (a + BitVec.ofNat 8 i) = some r) :
    regGet (writeBytes a ds s).regs r = regGet (writeReg (a + BitVec.ofNat 8 i) r d s).regs r := by
  induction ds generalizing a s i with
  | nil => simp at hd
  | cons d0 ds ih =>
    obtain ⟨ha, -, hrest⟩ := burst_rest_of_fits a ds.length hfit
    rw [writeBytes_cons a d0 ds s ha]
    cases i with
    | zero =>
      have hr0 : regAt s.cfg.numGpio a = some r := by simpa using hr
      obtain rfl : d0 = d := by simpa using hd
      have hafter : SameFor r (writeAt a d0 s) (writeBytes (a + 1) ds (writeAt a d0 s)) := by
        refine sameFor_writeBytes ds (a + 1) _ r hrest fun i hi => ?_
        rw [writeAt_cfg]
        exact regAt_add_one_add_ne _ ds.length i a r hfit hi hr0
      simpa [writeAt_of_regAt a d0 s r hr0] using hafter.value
    | succ i =>
      have hd' : ds[i]? = some d := by simpa using hd
      have hi : i < ds.length := (List.getElem?_eq_some_iff.1 hd').1
      have hfirst : regAt s.cfg.numGpio a ≠ some r := fun h =>
        regAt_add_one_add_ne _ ds.length i a r hfit hi h (by rw [add_one_add_ofNat, hr])
      have hcovered := ih (a + 1) (writeAt a d0 s) i hrest hd' (by rw [writeAt_cfg, add_one_add_ofNat, hr])
      rw [hcovered, (sameFor_writeAt a d0 s r hfirst).regGet_writeReg, add_one_add_ofNat]

/-- A burst reports CFG_ERR exactly where a byte of it alone would (40_bus_transactions.md R144). -/
theorem writeBytes_cfgErr_iff (ds : Bytes) (a : Byte) (s : State) (hfit : a.toNat + ds.length ≤ 0xFF) :
    (writeBytes a ds s).err.cfgErr = true ↔
      s.err.cfgErr = true ∨
        ∃ (i : Nat) (d : Byte) (r : Reg),
          ds[i]? = some d ∧ regAt s.cfg.numGpio (a + BitVec.ofNat 8 i) = some r ∧
            raisesCfgErr (a + BitVec.ofNat 8 i) r d s = true := by
  induction ds generalizing a s with
  | nil => simp [writeBytes]
  | cons d0 ds ih =>
    obtain ⟨ha, -, hrest⟩ := burst_rest_of_fits a ds.length hfit
    have hlater (i : Nat) (d : Byte) (r : Reg) (hd : ds[i]? = some d)
        (hr : regAt s.cfg.numGpio (a + 1 + BitVec.ofNat 8 i) = some r) :
        raisesCfgErr (a + 1 + BitVec.ofNat 8 i) r d (writeAt a d0 s) =
          raisesCfgErr (a + 1 + BitVec.ofNat 8 i) r d s :=
      (sameFor_writeAt a d0 s r fun h =>
        regAt_add_one_add_ne _ ds.length i a r hfit (List.getElem?_eq_some_iff.1 hd).1 h hr).raisesCfgErr _ _
    rw [writeBytes_cons a d0 ds s ha, ih (a + 1) (writeAt a d0 s) hrest, writeAt_cfg, writeAt_cfgErr_iff, or_assoc]
    refine or_congr_right (Iff.trans ?_ Nat.or_exists_add_one)
    refine or_congr ?first (exists_congr fun i => exists_congr fun d => exists_congr fun r => ?later)
    case first => simp
    case later =>
      rw [List.getElem?_cons_succ, ← add_one_add_ofNat]
      exact and_congr_right fun hd => and_congr_right fun hr => by rw [hlater i d r hd hr]

/-- Settles O17: what a burst leaves in a register it covers and in one it does not, and when it reports CFG_ERR. -/
theorem burstWriteActsOnEachAddress : Obligations.BurstWriteActsOnEachAddress := by
  intro s a data hlive ha hfit
  have hend : a.toNat + data.length ≤ 0xFF := hfit.2.resolve_left ha
  refine ⟨(writeBytes a data s).regs, (writeBytes a data s).err.cfgErr, ?exec, ?covered, ?uncovered, ?cfgErr⟩
  case exec =>
    calc exec (.burstWrite a data) s
      _ = .next (memWrite a data s) := transact_of_live id (memWrite a data) data.length s hlive
      _ = .next (finishFree (statusBytes s) data.length (writeBytes a data s)) := by rw [memWrite_of_fits a data s hfit]
      _ = _ := by
        rw [writeBytes_burst_frame data a s hend]
        rfl
  case covered => exact fun i d r hd hr => regGet_writeBytes_of_covered data a s i d r hend hd hr
  case uncovered => exact fun r hr => (sameFor_writeBytes data a s r hend hr).value
  case cfgErr =>
    rw [writeBytes_cfgErr_iff data a s hend]
    cases hs : s.err.cfgErr <;> simp [writeReg_cfgErr, hs]

/-! ## BURST_READ -/

/-- What a read byte is and does at an address other than the port's (40_bus_transactions.md R143). -/
def readAt (a : Byte) (s : State) : Byte × State :=
  match regAt s.cfg.numGpio a with
  | none => (Config.freeByte s.drawIndex, { s with drawIndex := s.drawIndex + 1 })
  | some r => (readReg r s, clearOnRead r s)

theorem readAt_of_mapped (a : Byte) (s : State) (r : Reg) (hr : regAt s.cfg.numGpio a = some r) :
    readAt a s = (readReg r s, clearOnRead r s) := by
  simp only [readAt, hr]

theorem readAt_of_unmapped (a : Byte) (s : State) (hr : regAt s.cfg.numGpio a = none) :
    readAt a s = (Config.freeByte s.drawIndex, { s with drawIndex := s.drawIndex + 1 }) := by
  simp only [readAt, hr]

/-- Below the port no byte of a burst fails, and the next one comes from the next address
(40_bus_transactions.md R146). -/
theorem readBytes_succ (a : Byte) (n : Nat) (s : State) (ha : a ≠ fifoPort) :
    readBytes a (n + 1) s =
      ((readAt a s).1 :: (readBytes (a + 1) n (readAt a s).2).1, (readBytes (a + 1) n (readAt a s).2).2) := by
  have hbyte : regReadByte a s = some (readAt a s) := by
    unfold regReadByte readAt
    rw [if_neg ha]
    cases regAt s.cfg.numGpio a <;> rfl
  rw [readBytes, hbyte, nextAddr_eq_add_one a ha]

theorem readAt_cfg (a : Byte) (s : State) : (readAt a s).2.cfg = s.cfg := by
  unfold readAt
  cases regAt s.cfg.numGpio a with
  | none => rfl
  | some r =>
    show (clearOnRead r s).cfg = s.cfg
    rw [clearOnRead_eq]

/-- A read clears the register it reads and no other (10_state.md R52). -/
theorem readReg_clearOnRead_of_ne (q r : Reg) (s : State) (hr : r ≠ q) :
    readReg r (clearOnRead q s) = readReg r s := by
  rw [clearOnRead_eq]
  cases r
  case eventFlags1 => exact if_neg hr.symm
  case eventFlags0 => exact if_neg hr.symm
  case errFlags => exact congrArg (fun e => (errBits e).zeroExtend 8) (if_neg hr.symm)
  all_goals rfl

/-- A byte changes no register at another address (10_state.md R52, 20_memory.md R74). -/
theorem readReg_readAt (a : Byte) (s : State) (r : Reg) (hr : regAt s.cfg.numGpio a ≠ some r) :
    readReg r (readAt a s).2 = readReg r s := by
  unfold readAt
  cases hq : regAt s.cfg.numGpio a with
  | none => cases r <;> rfl
  | some q => exact readReg_clearOnRead_of_ne q r s fun h => hr (h ▸ hq)

/-- An unmapped address draws one free byte, a mapped one none (20_memory.md R74). -/
theorem readAt_drawIndex (a : Byte) (s : State) :
    (readAt a s).2.drawIndex = s.drawIndex + if regAt s.cfg.numGpio a = none then 1 else 0 := by
  unfold readAt
  cases regAt s.cfg.numGpio a with
  | none => rfl
  | some r =>
    show (clearOnRead r s).drawIndex = s.drawIndex
    rw [clearOnRead_eq]

theorem drawIndex_le_readBytes (n : Nat) (a : Byte) (s : State) (hfit : a.toNat + n ≤ 0xFF) :
    s.drawIndex ≤ (readBytes a n s).2.drawIndex := by
  induction n generalizing a s with
  | zero => exact Nat.le_refl _
  | succ n ih =>
    obtain ⟨ha, -, hrest⟩ := burst_rest_of_fits a n hfit
    have hbyte : s.drawIndex ≤ (readAt a s).2.drawIndex := by
      rw [readAt_drawIndex]
      exact Nat.le_add_right _ _
    rw [readBytes_succ a n s ha]
    exact hbyte.trans (ih (a + 1) (readAt a s).2 hrest)

theorem readBytes_length (n : Nat) (a : Byte) (s : State) (hfit : a.toNat + n ≤ 0xFF) :
    (readBytes a n s).1.length = n := by
  induction n generalizing a s with
  | zero => rfl
  | succ n ih =>
    obtain ⟨ha, -, hrest⟩ := burst_rest_of_fits a n hfit
    rw [readBytes_succ a n s ha, List.length_cons, ih (a + 1) (readAt a s).2 hrest]

/-- Where a burst covers a register it returns it as it stood before the burst: the bytes before do not change it
(40_bus_transactions.md R143, R146). -/
theorem readBytes_getElem?_of_mapped (n : Nat) (a : Byte) (s : State) (i : Nat) (r : Reg) (hfit : a.toNat + n ≤ 0xFF)
    (hi : i < n) (hr : regAt s.cfg.numGpio (a + BitVec.ofNat 8 i) = some r) :
    (readBytes a n s).1[i]? = some (readReg r s) := by
  induction n generalizing a s i with
  | zero => exact absurd hi (Nat.not_lt_zero i)
  | succ n ih =>
    obtain ⟨ha, -, hrest⟩ := burst_rest_of_fits a n hfit
    rw [readBytes_succ a n s ha]
    cases i with
    | zero =>
      have hr0 : regAt s.cfg.numGpio a = some r := by simpa using hr
      simp [readAt_of_mapped a s r hr0]
    | succ i =>
      have hi' : i < n := Nat.lt_of_succ_lt_succ hi
      have hfirst : regAt s.cfg.numGpio a ≠ some r := fun h =>
        regAt_add_one_add_ne _ n i a r hfit hi' h (by rw [add_one_add_ofNat, hr])
      rw [List.getElem?_cons_succ, ih (a + 1) (readAt a s).2 i hrest hi' (by rw [readAt_cfg, add_one_add_ofNat, hr]),
        readReg_readAt a s r hfirst]

/-- Where a burst covers no register it returns one of the free bytes it draws (20_memory.md R74). -/
theorem readBytes_getElem?_of_unmapped (n : Nat) (a : Byte) (s : State) (i : Nat) (hfit : a.toNat + n ≤ 0xFF)
    (hi : i < n) (hr : regAt s.cfg.numGpio (a + BitVec.ofNat 8 i) = none) :
    ∃ m, s.drawIndex ≤ m ∧ m < (readBytes a n s).2.drawIndex ∧
      (readBytes a n s).1[i]? = some (Config.freeByte m) := by
  induction n generalizing a s i with
  | zero => exact absurd hi (Nat.not_lt_zero i)
  | succ n ih =>
    obtain ⟨ha, -, hrest⟩ := burst_rest_of_fits a n hfit
    have hdraws := readAt_drawIndex a s
    rw [readBytes_succ a n s ha]
    cases i with
    | zero =>
      have hr0 : regAt s.cfg.numGpio a = none := by simpa using hr
      have hlast := drawIndex_le_readBytes n (a + 1) (readAt a s).2 hrest
      rw [if_pos hr0] at hdraws
      exact ⟨s.drawIndex, Nat.le_refl _, Nat.lt_of_lt_of_le (by omega) hlast, by simp [readAt_of_unmapped a s hr0]⟩
    | succ i =>
      obtain ⟨m, hlow, hhigh, hbyte⟩ :=
        ih (a + 1) (readAt a s).2 i hrest (Nat.lt_of_succ_lt_succ hi) (by rw [readAt_cfg, add_one_add_ofNat, hr])
      exact ⟨m, by omega, hhigh, hbyte⟩

/-- The state with the flag registers cleared that stand at one of the `n` addresses from `a` on (10_state.md R52). -/
def clearFlags (a n : Nat) (s : State) : State :=
  { s with
    regs :=
      { s.regs with
        eventFlags1 := if a ≤ 0x2A ∧ 0x2A < a + n then 0x00#8 else s.regs.eventFlags1
        eventFlags0 := if a ≤ 0x2B ∧ 0x2B < a + n then 0x00#8 else s.regs.eventFlags0 }
    err := if a ≤ 0x2C ∧ 0x2C < a + n then ErrFlags.clear else s.err }

theorem clearFlags_zero (a : Nat) (s : State) : clearFlags a 0 s = s := by
  have hnone (x : Nat) : ¬ (a ≤ x ∧ x < a + 0) := by omega
  simp only [clearFlags, if_neg (hnone _)]

/-- The flags of a burst are those of its first address and those of its rest. -/
theorem clearFlags_succ (a n : Nat) (s : State) : clearFlags (a + 1) n (clearFlags a 1 s) = clearFlags a (n + 1) s := by
  have hsplit {α : Type} (x : Nat) (z y : α) :
      (if a + 1 ≤ x ∧ x < a + 1 + n then z else if a ≤ x ∧ x < a + 1 then z else y) =
        if a ≤ x ∧ x < a + (n + 1) then z else y := by
    rw [← ite_or]
    exact if_congr (by omega) rfl rfl
  simp only [clearFlags, hsplit]

/-- Each flag register stands at its address whatever the number of pins (10_state.md R30). -/
theorem regAt_eq_flag_iff (k : Nat) (a : Byte) (r : Reg) (hr : regAccess r = .rc) :
    regAt k a = some r ↔ a.toNat ≤ regAddr r ∧ regAddr r < a.toNat + 1 := by
  refine ⟨fun h => ?_, fun h => ?_⟩
  · have haddr := regAddr_of_regAt k a r h
    omega
  · have haddr : a.toNat = regAddr r := by omega
    -- `cases hr` leaves the flag registers only
    cases r <;> cases hr <;> simp only [regAt, haddr, regAddr]

/-- A byte clears the flag register at its address (10_state.md R52). -/
theorem readAt_frame (a : Byte) (s : State) :
    (readAt a s).2 = { clearFlags a.toNat 1 s with drawIndex := (readAt a s).2.drawIndex } := by
  have h1 := regAt_eq_flag_iff s.cfg.numGpio a .eventFlags1 rfl
  have h0 := regAt_eq_flag_iff s.cfg.numGpio a .eventFlags0 rfl
  have he := regAt_eq_flag_iff s.cfg.numGpio a .errFlags rfl
  simp only [regAddr] at h1 h0 he
  simp only [clearFlags, ← h1, ← h0, ← he]
  cases hq : regAt s.cfg.numGpio a with
  | none => simp [readAt_of_unmapped a s hq]
  | some q => simp [readAt_of_mapped a s q hq, clearOnRead_eq]

/-- A burst below the port clears the flag registers it covers, and draws free bytes
(40_bus_transactions.md R143, R146). -/
theorem readBytes_burst_frame (n : Nat) (a : Byte) (s : State) (hfit : a.toNat + n ≤ 0xFF) :
    (readBytes a n s).2 = { clearFlags a.toNat n s with drawIndex := (readBytes a n s).2.drawIndex } := by
  induction n generalizing a s with
  | zero =>
    rw [clearFlags_zero]
    rfl
  | succ n ih =>
    obtain ⟨ha, hnext, hrest⟩ := burst_rest_of_fits a n hfit
    rw [readBytes_succ a n s ha]
    have hbyte := readAt_frame a s
    have hburst := ih (a + 1) (readAt a s).2 hrest
    generalize readBytes (a + 1) n (readAt a s).2 = u at hburst ⊢
    rw [hbyte, hnext] at hburst
    rw [← clearFlags_succ]
    exact hburst

/-- Settles O16: what each byte of a burst returns, and what the burst clears. -/
theorem burstReadReturnsEachRegister : Obligations.BurstReadReturnsEachRegister := by
  intro s a dummies hlive ha hfit
  have hend : a.toNat + dummies.length ≤ 0xFF := hfit.2.resolve_left ha
  have hexec : exec (.burstRead a dummies) s = .next
      (finish (statusBytes s ++ (readBytes a dummies.length s).1) (readBytes a dummies.length s).2) := by
    rw [← memRead_of_fits a dummies.length s hfit]
    exact transact_of_live id (memRead a dummies.length) dummies.length s hlive
  refine ⟨_, _, hexec, rfl, readBytes_length dummies.length a s hend,
    fun i hi => ⟨fun r hr => ?mapped, fun hr => ?unmapped⟩, ?frame⟩
  case mapped => exact readBytes_getElem?_of_mapped dummies.length a s i r hend hi hr
  case unmapped => exact readBytes_getElem?_of_unmapped dummies.length a s i hend hi hr
  case frame =>
    rw [readBytes_burst_frame dummies.length a s hend]
    rfl

/-! ## Transfers at the FIFO port -/

/-- Settles O18: bytes that fit leave nothing to fail. -/
theorem fifoTransfersInOrder : Obligations.FifoTransfersInOrder := by
  intro s bytes hlive hfit
  refine ⟨fun hroom => ?write, fun hthere => ?read⟩
  case write =>
    have hbytes : writeBytes fifoPort bytes s = { s with txFifo := s.txFifo ++ bytes } := by
      simpa [writeBytes] using writeBytes_fifoPort_append bytes [] s hroom
    calc exec (.fifoWrite bytes) s
      _ = .next (memWrite fifoPort bytes s) := transact_of_live id (memWrite fifoPort bytes) bytes.length s hlive
      _ = _ := by
        rw [memWrite_of_fits fifoPort bytes s hfit, hbytes]
        rfl
  case read =>
    have hbytes : readBytes fifoPort bytes.length s =
        (s.rxFifo.take bytes.length, { s with rxFifo := s.rxFifo.drop bytes.length }) := by
      simpa [readBytes, List.length_take_of_le hthere] using
        readBytes_fifoPort_append (s.rxFifo.take bytes.length) (s.rxFifo.drop bytes.length) 0 s
          (List.take_append_drop bytes.length s.rxFifo).symm
    calc exec (.fifoRead bytes) s
      _ = .next (memRead fifoPort bytes.length s) :=
        transact_of_live id (memRead fifoPort bytes.length) bytes.length s hlive
      _ = _ := by
        rw [memRead_of_fits fifoPort bytes.length s hfit, hbytes]
        rfl

/-! ## One-byte accesses to a register -/

/-- The GPIO registers that are mapped are those of at most eight pins (10_state.md R30). -/
theorem regAt_gpioCfg_high (k n : Nat) (a : Byte) (h : regAt k a = some (.gpioCfg n)) : a.toNat ≤ 0x1F := by
  unfold regAt at h
  split at h
  case h_38 =>
    split at h
    next hpin => exact hpin.2.1
    · cases h
  all_goals cases h

/-- The address of a mapped register tells its access class (10_state.md R30). -/
theorem regAccess_iff_of_regAt (k : Nat) (a : Byte) (r : Reg) (h : regAt k a = some r) :
    (regAccess r = .rw ↔ a.toNat ≤ 0x1F) ∧ (regAccess r = .rc ↔ 0x2A ≤ a.toNat) := by
  have haddr := regAddr_of_regAt k a r h
  cases r
  case gpioCfg n =>
    have hhigh := regAt_gpioCfg_high k n a h
    exact ⟨iff_of_true rfl hhigh, iff_of_false nofun (by omega)⟩
  all_goals simp [haddr, regAddr, regAccess]

/-- `MASK` by address (40_bus_transactions.md R142). -/
theorem regMask_of_regAt (k : Nat) (a : Byte) (r : Reg) (h : regAt k a = some r) (ha : a.toNat ≤ 0x1F) :
    regMask r =
      if a = 0x00#8 then 0x3F#8
      else if a = 0x02#8 then 0x07#8
      else if a = 0x0D#8 ∨ a = 0x0E#8 then 0x03#8
      else if a = 0x15#8 then 0x01#8
      else if 0x18 ≤ a.toNat then 0xFB#8
      else 0xFF#8 := by
  have haddr := regAddr_of_regAt k a r h
  simp only [← BitVec.toNat_inj]
  rw [haddr] at ha ⊢
  cases r
  case gpioCfg n =>
    have hpin (x : Nat) (hx : x < 0x18) : 0x18 + n ≠ x := by omega
    simp [regAddr, regMask, hpin]
  all_goals simp_all [regAddr, regMask]

/-- The rebinding of an enabled pin (10_state.md R55). -/
theorem rebinds_iff (r : Reg) (v : Byte) (s : State) :
    rebinds r v s = true ↔
      ∃ n, r = .gpioCfg n ∧ (s.regs.gpioCfg.getD n 0x00#8).getLsbD 0 = true ∧ v.getLsbD 0 = true ∧
        v.extractLsb' 3 5 ≠ (s.regs.gpioCfg.getD n 0x00#8).extractLsb' 3 5 := by
  cases r
  case gpioCfg n =>
    have hsel (w : Byte) : gpioSel v = gpioSel w ↔ v.extractLsb' 3 5 = w.extractLsb' 3 5 := BitVec.toNat_inj
    simp [rebinds, gpioEn, regGet, hsel, and_assoc]
  all_goals simp [rebinds]

/-- A write that is neither locked nor illegal stores the masked value (40_bus_transactions.md R142). -/
theorem writeReg_of_accepted (a : Byte) (r : Reg) (v : Byte) (s : State) (hrw : regAccess r = .rw)
    (hlock : ¬ (a.toNat ≤ 0x14 ∧ busy s = true)) (hlegal : regLegal s.cfg.fifoCap r (v &&& regMask r) = true) :
    writeReg a r v s = storeReg r (v &&& regMask r) s := by
  have hunlocked : ¬ (lockedAddr a && busy s) = true := by simpa [lockedAddr] using hlock
  rw [writeReg, if_pos hrw, if_neg hunlocked, if_pos hlegal]

/-- Settles O9: the branch of `writeReg` that stores, then the tables it looks at. -/
theorem writeStoresTheMaskedValue : Obligations.WriteStoresTheMaskedValue := by
  refine ⟨fun s a d r hlive ha hfit hr hrw hlock hlegal => ?_, fun s r v => rebinds_iff r v s, regAccess_iff_of_regAt,
    regMask_of_regAt⟩
  rw [exec_write_mapped s a d r hlive ha hfit hr, writeReg_of_accepted a r d s hrw hlock hlegal, storeReg_eq]

theorem clearOnRead_of_not_rc (r : Reg) (s : State) (hr : regAccess r ≠ .rc) : clearOnRead r s = s := by
  cases r
  case eventFlags1 | eventFlags0 | errFlags => exact absurd rfl hr
  all_goals rfl

/-- Three registers are views of other state (10_state.md R46, R52); the others read as stored. -/
theorem readReg_of_stored (r : Reg) (s : State) (hr : r ∉ [.txFifoCount, .rxFifoCount, .errFlags]) :
    readReg r s = regGet s.regs r := by
  cases r
  case txFifoCount | rxFifoCount | errFlags => exact absurd (by simp) hr
  all_goals rfl

/-- The registers of the pins follow one another from 0x18 on (10_state.md R30). -/
theorem regAt_gpioCfg (n k : Nat) (hn : k < n) (hk : k < 8) :
    regAt n (BitVec.ofNat 8 (0x18 + k)) = some (.gpioCfg k) := by
  have hpin : 0x18 + k < 0x18 + n := by omega
  interval_cases k <;> simp_all [regAt]

/-- Settles O14: `exec_read_mapped`, then what each register is a view of and where it stands. -/
theorem readReturnsTheRegister : Obligations.ReadReturnsTheRegister := by
  refine ⟨fun s a dummy r hlive ha hfit hr =>
      ⟨exec_read_mapped s a dummy r hlive ha hfit hr, clearOnRead_of_not_rc r s⟩,
    fun s r => ⟨rfl, rfl, rfl, readReg_of_stored r s⟩, fun s n => ⟨?table, fun k hn hk => ?pins⟩⟩
  case table =>
    repeat refine List.forall_mem_cons.2 ⟨rfl, ?_⟩
    exact List.forall_mem_nil _
  case pins =>
    rw [regAt_gpioCfg n k hn hk]
    rfl

/-! ## The status poll -/

theorem statusWord_of_powered (s : State) (h : s.powered = true) :
    statusWord s =
      errBits s.err ++ BitVec.ofBool s.csma.active ++ pendingCode s.pending ++
        BitVec.ofBool (decide (s.txFifo.length = s.cfg.fifoCap)) ++ BitVec.ofBool (decide (s.txFifo.length = 0)) ++
        BitVec.ofBool (decide (s.rxFifo.length = s.cfg.fifoCap)) ++ BitVec.ofBool (decide (s.rxFifo.length = 0)) ++
        BitVec.ofBool (rxInFrame s) ++ radioCode s.radio :=
  if_pos h

/-- `PENDING` is the status word's field at bit 8 (10_state.md R29). -/
theorem statusWord_pending (s : State) (h : s.powered = true) :
    (statusWord s).extractLsb' 8 2 = pendingCode s.pending := by
  rw [statusWord_of_powered s h]
  repeat rw [BitVec.extractLsb'_append_eq_of_le (by decide)]
  exact BitVec.extractLsb'_append_eq_right

/-- `RADIO_STATE` is the status word's lowest field (10_state.md R29). -/
theorem statusWord_radio (s : State) (h : s.powered = true) :
    (statusWord s).extractLsb' 0 3 = radioCode s.radio := by
  rw [statusWord_of_powered s h]
  exact BitVec.extractLsb'_append_eq_right

/-- The one-bit fields of the status word, from the highest down (10_state.md R29). -/
theorem statusWord_flags (s : State) (h : s.powered = true) :
    [15, 14, 13, 12, 11, 10, 7, 6, 5, 4, 3].map (statusWord s).getLsbD =
      [s.err.cfgErr, s.err.cmdErr, s.err.lockErr, s.err.rxOverrun, s.err.txUnderflow, s.csma.active,
        decide (s.txFifo.length = s.cfg.fifoCap), decide (s.txFifo.length = 0),
        decide (s.rxFifo.length = s.cfg.fifoCap), decide (s.rxFifo.length = 0), rxInFrame s] := by
  have hlayout (e : ErrFlags) (c f1 f2 f3 f4 f5 : Bool) (p : BitVec 2) (r : BitVec 3) :
      [15, 14, 13, 12, 11, 10, 7, 6, 5, 4, 3].map
          (errBits e ++ BitVec.ofBool c ++ p ++ BitVec.ofBool f1 ++ BitVec.ofBool f2 ++ BitVec.ofBool f3 ++
            BitVec.ofBool f4 ++ BitVec.ofBool f5 ++ r).getLsbD =
        [e.cfgErr, e.cmdErr, e.lockErr, e.rxOverrun, e.txUnderflow, c, f1, f2, f3, f4, f5] := by
    -- with the width summed up to 16 there would be no `append` for `getLsbD_append` to match
    simp only [List.map_cons, List.map_nil, errBits, BitVec.getLsbD_append, -Nat.reduceAdd]
    simp
  rw [statusWord_of_powered s h]
  exact hlayout ..

/-- Settles O7: the poll's two headers, its frame, the fields of the status word, and its value in SHUTDOWN. -/
theorem pollReturnsTheSnapshot : Obligations.PollReturnsTheSnapshot := by
  refine ⟨fun m a => ⟨decode_write_header m a [], decode_read_header m a []⟩, fun s a form hlive => ?poll,
    fun s hp => ?fields, fun s hp => ?unpowered⟩
  case poll =>
    calc exec (.poll form a) s
      _ = .next (command id 0 s) := transact_of_live id (command id 0) 0 s hlive
      _ = _ := by
        rw [command_eq_after id 0 s rfl rfl]
        rfl
  case fields =>
    have hflags := statusWord_flags s hp
    simp only [List.map_cons, List.map_nil, List.cons.injEq, and_true, rxInFrame, List.length_eq_zero_iff,
      ← Bool.decide_and] at hflags
    obtain ⟨h15, h14, h13, h12, h11, h10, h7, h6, h5, h4, h3⟩ := hflags
    rw [statusWord_pending s hp, statusWord_radio s hp]
    refine ⟨h15, h14, h13, h12, h11, h10, ?pending, h7, h6, h5, h4, h3, ?radio⟩
    case pending => cases s.pending <;> rfl
    case radio => cases s.radio <;> rfl
  case unpowered => simp [statusWord, hp]

/-! ## Transactions in SHUTDOWN -/

/-- On an unpowered chip every instruction is answered by its length alone (40_bus_transactions.md R149). -/
theorem exec_of_unpowered (i : Instr) (s : State) (hf : s.faults = []) (hp : s.powered = false) :
    exec i s = .next (unpowered (offEffect i) ((encode s.cfg.strobeCode i).length - 2) s) := by
  have htransact (on : State → State) (n : Nat) :
      transact (offEffect i) n on s = .next (unpowered (offEffect i) n s) :=
    (transact_next _ on n s _).2 ⟨hf, by simp [hp]⟩
  cases i with
  | poll form addr => cases form <;> exact htransact _ _
  | _ => exact htransact _ _

theorem offEffect_of_ne_pwrup (i : Instr) (hi : ∀ tail, i ≠ .pwrup tail) : offEffect i = id := by
  cases i with
  | pwrup tail => exact absurd rfl (hi tail)
  | _ => rfl

theorem freeBytes_eq_map (m n : Nat) : freeBytes m n = (List.range n).map (fun k => Config.freeByte (m + k)) := by
  induction n generalizing m with
  | zero => rfl
  | succ n ih => simp [freeBytes, ih, List.range_succ_eq_map, Nat.add_assoc, Nat.add_comm 1]

/-- Settles O8: an instruction that powers nothing up leaves the bookkeeping alone to change. -/
theorem unpoweredTransactionsDoNothing : Obligations.UnpoweredTransactionsDoNothing := by
  refine ⟨fun s i hf hp hi => ?_, freeBytes_eq_map⟩
  rw [exec_of_unpowered i s hf hp, offEffect_of_ne_pwrup i hi]
  rfl

end Sys2Proof.Machine
end

section
/-! PROOFS of the family `41_state_machine.md`. How one step moves RADIO_STATE (O35, O55), what each strobe does (O21, O22,
O24 to O31), the legality table (O32) and the lock results (O33). -/

namespace Sys2Proof.Machine

open Sys2Proof

/-! ## The moves of RADIO_STATE -/

/-- READY_REACHED's flag is set (44_event_routing.md R321). -/
def ReadySignalled (s : State) : Prop :=
  s.regs.eventFlags1.getLsbD 5 = true

theorem readySignalled_signal (s : State) : ReadySignalled (signal .readyReached s) := by
  show (s.regs.eventFlags1 ||| ((1 : Byte) <<< 5)).getLsbD 5 = true
  simp

/-- A packet engine's step stays in its radio state, or signals READY_REACHED in READY (41_state_machine.md R188). -/
def StaysOrSignals (s t : State) : Prop :=
  t.radio = s.radio ∨ t.radio = .ready ∧ ReadySignalled t

theorem staysOrSignals_readyReached (s t : State) (ht : t.radio = .ready) :
    StaysOrSignals s (signal .readyReached t) :=
  .inr ⟨ht, readySignalled_signal t⟩

/-! ### The RX deserializer -/

theorem staysOrSignals_frameEnd (s : State) : StaysOrSignals s (frameEnd s) := by
  rcases frameEnd_cases s with ⟨h, -⟩ | ⟨-, ⟨h, -⟩ | ⟨h, -⟩⟩ <;> rw [h]
  · exact .inl rfl
  · exact .inl rfl
  · exact staysOrSignals_readyReached s _ rfl

theorem staysOrSignals_advance (p : RxPhase) (s : State) : StaysOrSignals s (advance p s) := by
  rcases advance_cases p s with ⟨q, -, -, h⟩ | ⟨-, h⟩ <;> rw [h]
  · exact .inl rfl
  · exact staysOrSignals_frameEnd s

theorem lengthMismatch_radio (s : State) : (lengthMismatch s).radio = s.radio := rfl

theorem staysOrSignals_rxLenDone (s : State) : StaysOrSignals s (rxLenDone s) := by
  unfold rxLenDone
  dsimp only
  split
  · exact .inl (lengthMismatch_radio _)
  · exact staysOrSignals_advance .len _

theorem staysOrSignals_rxLen (b : Byte) (s : State) : StaysOrSignals s (rxLen b s) := by
  unfold rxLen
  dsimp only
  split
  · exact staysOrSignals_rxLenDone _
  · exact .inl rfl

theorem rxPush_radio (b : Byte) (s : State) : (rxPush b s).radio = s.radio := by
  rw [rxPush_cases]
  split <;> rfl

theorem staysOrSignals_rxPayload (b : Byte) (s : State) : StaysOrSignals s (rxPayload b s) := by
  unfold rxPayload
  dsimp only
  split
  · exact .inl rfl
  · rw [StaysOrSignals, ← rxPush_radio b s]
    split
    · exact staysOrSignals_advance .payload _
    · exact .inl rfl

theorem staysOrSignals_rxCrc (b : Byte) (s : State) : StaysOrSignals s (rxCrc b s) := by
  unfold rxCrc
  dsimp only
  split
  · exact staysOrSignals_frameEnd _
  · exact .inl rfl

theorem staysOrSignals_rxByte (b : Byte) (s : State) : StaysOrSignals s (rxByte b s) := by
  unfold rxByte
  cases s.rx.phase with
  | hunt => exact .inl rfl
  | len => exact staysOrSignals_rxLen b (rxCrcUpdate b s)
  | addr => exact staysOrSignals_advance .addr _
  | ctrl => exact staysOrSignals_advance .ctrl _
  | payload => exact staysOrSignals_rxPayload b (rxCrcUpdate b s)
  | crc => exact staysOrSignals_rxCrc b s

/-! ### The TX serializer -/

theorem staysOrSignals_txAdvance (b : Byte) (s : State) : StaysOrSignals s (txAdvance b s) := by
  rcases txAdvance_cases b s with ⟨-, h⟩ | ⟨-, h⟩ <;> rw [h]
  · exact staysOrSignals_readyReached s _ rfl
  · exact .inl rfl

theorem txPop_radio (s t : State) (b : Byte) (h : txPop s = some (b, t)) : t.radio = s.radio := by
  rcases txPop_cases s with ⟨hnone, -⟩ | ⟨c, rest, -, hsome⟩
  · cases hnone.symm.trans h
  · cases hsome.symm.trans h
    split <;> rfl

theorem staysOrSignals_txEmit (s : State) : StaysOrSignals s (txEmit s) := by
  unfold txEmit
  dsimp only
  split
  · exact staysOrSignals_txAdvance _ s
  split
  · exact staysOrSignals_txAdvance _ (txCrc _ s)
  split
  · split
    · exact staysOrSignals_readyReached s _ rfl
    next b s1 h =>
      rw [StaysOrSignals, ← txPop_radio s s1 b h]
      exact staysOrSignals_txAdvance b (txCrc b s1)
  · exact staysOrSignals_txAdvance _ s

/-! ### Every step -/

/-- The ways one step moves RADIO_STATE from `r` to `r'` with the request `p` pending before it
(41_state_machine.md R189); `signalled` says whether READY_REACHED is signalled after it (R187, R188). -/
inductive RadioMove (r : RadioState) (p : Pending) (r' : RadioState) (signalled : Prop) : Prop
  | stay (hr' : r' = r)
  | toStandby (hr' : r' = .standby)
  | toLocking (hr : r = .standby ∨ r = .sleep) (hr' : r' = .locking)
  | leaveReady (hr : r = .ready) (hr' : r' = .sleep ∨ r' = .tx ∨ r' = .rx)
  | toReady (hr : r = .locking ∨ r = .tx ∨ r = .rx) (hr' : r' = .ready) (hsig : signalled)
  | lockedToTx (hr : r = .locking) (hp : p = .tx) (hr' : r' = .tx) (hsig : signalled)
  | lockedToRx (hr : r = .locking) (hr' : r' = .rx)

section
variable {r r' : RadioState} {p : Pending} {signalled : Prop}

theorem RadioMove.edge (h : RadioMove r p r' signalled) : radioEdge r r' = true := by
  cases h with
  | stay hr' => subst hr'; cases r' <;> rfl
  | toStandby hr' => subst hr'; cases r <;> rfl
  | toLocking hr hr' => rcases hr with rfl | rfl <;> subst hr' <;> rfl
  | leaveReady hr hr' => subst hr; rcases hr' with rfl | rfl | rfl <;> rfl
  | toReady hr hr' _ => rcases hr with rfl | rfl | rfl <;> subst hr' <;> rfl
  | lockedToTx hr _ hr' _ => subst hr hr'; rfl
  | lockedToRx hr hr' => subst hr hr'; rfl

/-- No move leads to SHUTDOWN (41_state_machine.md R189). -/
theorem RadioMove.enterShutdown (h : RadioMove r p r' signalled) (hr' : r' = .shutdown) : r = .shutdown := by
  subst hr'
  cases h with
  | stay h => exact h.symm
  | leaveReady _ h => simp at h
  | toStandby h | toLocking _ h | toReady _ h _ | lockedToTx _ _ h _ | lockedToRx _ h => cases h

/-- TX is entered from READY, at once or in the step that reaches it (41_state_machine.md R187, R189). -/
theorem RadioMove.enterTx (h : RadioMove r p r' signalled) (hr' : r' = .tx) (hr : r ≠ .tx) :
    r = .ready ∨ r = .locking ∧ p = .tx ∧ signalled := by
  subst hr'
  cases h with
  | stay h => exact absurd h.symm hr
  | leaveReady h _ => exact .inl h
  | lockedToTx h hp _ hsig => exact .inr ⟨h, hp, hsig⟩
  | toStandby h | toLocking _ h | toReady _ h _ | lockedToRx _ h => cases h

/-- Whatever enters READY is signalled (41_state_machine.md R188). -/
theorem RadioMove.enterReady (h : RadioMove r p r' signalled) (hr : r ≠ .ready) (hr' : r' = .ready) : signalled := by
  subst hr'
  cases h with
  | stay h => exact absurd h.symm hr
  | leaveReady h _ => exact absurd h hr
  | toReady _ _ hsig => exact hsig
  | toStandby h | toLocking _ h | lockedToTx _ _ h _ | lockedToRx _ h => cases h

end

/-- The step from `s` to `t` makes one of the moves. -/
abbrev Moves (s t : State) : Prop :=
  RadioMove s.radio s.pending t.radio (ReadySignalled t)

theorem StaysOrSignals.moves {s t : State} (h : StaysOrSignals s t) (hs : s.radio = .tx ∨ s.radio = .rx) :
    Moves s t := by
  rcases h with h | ⟨ht, hsig⟩
  · exact .stay h
  · exact .toReady (.inr hs) ht hsig

/-- A TX request in READY stays there or enters TX (41_state_machine.md R181, R182). -/
theorem txStrobeInReady_radio (s : State) :
    (txStrobeInReady s).radio = s.radio ∨ (txStrobeInReady s).radio = .tx := by
  rcases txStrobeInReady_cases s with ⟨h, -⟩ | ⟨-, ⟨h, -⟩ | ⟨h, -⟩⟩ <;> rw [h]
  · exact .inl rfl
  · exact .inl rfl
  · exact .inr rfl

/-- An RX request in READY stays there or enters RX (41_state_machine.md R180). -/
theorem rxStrobeInReady_radio (s : State) :
    (rxStrobeInReady s).radio = s.radio ∨ (rxStrobeInReady s).radio = .rx := by
  rcases rxStrobeInReady_cases s with ⟨h, -⟩ | ⟨h, -⟩ <;> rw [h]
  · exact .inl rfl
  · exact .inr rfl

/-- Carrying out a request touches no event flag. -/
theorem readySignalled_carryOut (p : Pending) (s : State) (h : ReadySignalled s) : ReadySignalled (carryOut p s) := by
  cases p with
  | none => exact h
  | tx => rcases txStrobeInReady_cases s with ⟨heq, -⟩ | ⟨-, ⟨heq, -⟩ | ⟨heq, -⟩⟩ <;> rw [carryOut, heq] <;> exact h
  | rx => rcases rxStrobeInReady_cases s with ⟨heq, -⟩ | ⟨heq, -⟩ <;> rw [carryOut, heq] <;> exact h

/-- READY reached and signalled at lock success, with no request left (41_state_machine.md R187). -/
def lockSuccess (s : State) : State :=
  setPending .none (signal .readyReached (setRadio .ready s))

theorem lockResult_true (s : State) : lockResult true s = carryOut s.pending (lockSuccess s) := rfl

theorem moves_lockResult (ok : Bool) (s : State) (hs : s.radio = .locking) : Moves s (lockResult ok s) := by
  cases ok with
  | false => exact .toStandby rfl
  | true =>
    have hsig (p : Pending) : ReadySignalled (carryOut p (lockSuccess s)) :=
      readySignalled_carryOut p _ (readySignalled_signal (setRadio .ready s))
    rw [lockResult_true]
    cases hpend : s.pending with
    | none => exact .toReady (.inl hs) rfl (hsig .none)
    | tx =>
      rcases txStrobeInReady_radio (lockSuccess s) with h | h
      · exact .toReady (.inl hs) h (hsig .tx)
      · exact .lockedToTx hs hpend h (hsig .tx)
    | rx =>
      rcases rxStrobeInReady_radio (lockSuccess s) with h | h
      · exact .toReady (.inl hs) h (hsig .rx)
      · exact .lockedToRx hs h

/-- A window's end stays in READY, but for the hand-off of an idle channel to the serializer (43_csma_engine.md R284). -/
theorem windowEnd_radio (k : Nat) (s : State) : (windowEnd k s).radio = s.radio ∨ (windowEnd k s).radio = .tx := by
  rcases windowEnd_cases k s with ⟨h, -⟩ | ⟨-, ⟨h, -⟩ | ⟨-, ⟨h, -⟩ | ⟨h, -⟩⟩⟩ <;> rw [h]
  · exact .inr rfl
  · exact .inl rfl
  · exact .inl rfl
  · obtain ⟨d, -, ⟨-, h⟩ | ⟨-, h⟩⟩ := startBackoff_cases k s <;> rw [h] <;> exact .inl rfl

theorem moves_csmaSample (v : Byte) (k : Nat) (s : State) (hs : s.radio = .ready) :
    Moves s (csmaSample v k s) := by
  unfold csmaSample
  dsimp only
  split
  · rcases windowEnd_radio k _ with h | h
    · exact .stay h
    · exact .leaveReady hs (.inr (.inl h))
  · exact .stay rfl

theorem moves_csmaTick (s : State) : Moves s (csmaTick s) := by
  unfold csmaTick
  dsimp only
  split <;> exact .stay rfl

/-- An enabled engine or environment step: where it is enabled says in which radio state it starts (00_scope.md R11). -/
theorem moves_inputEffect (e : Input) (s : State) (he : inputEnabled e s = true) : Moves s (inputEffect e s) := by
  cases e with
  | transaction bytes => exact .stay rfl
  | txEmit => exact (staysOrSignals_txEmit s).moves (.inl (of_decide_eq_true he))
  | lockResult ok => exact moves_lockResult ok s (of_decide_eq_true he)
  | rssiSample v => exact .stay rfl
  | csmaSample v k =>
    simp only [inputEnabled, Bool.and_eq_true, decide_eq_true_eq] at he
    exact moves_csmaSample v k s he.1.1
  | tick => exact moves_csmaTick s
  | syncDetected => exact .stay rfl
  | rxByte b => exact (staysOrSignals_rxByte b s).moves (.inr ((rxInFrame_iff s).1 he).1)
  | carrierLost => exact .stay rfl

theorem moves_envStep (e : Input) (s : State) : Moves s (envStep e s) := by
  unfold envStep
  split
  · exact moves_inputEffect e s ‹_›
  · exact .stay rfl

theorem moves_readyEffect (s : State) : Moves s (readyEffect s) := by
  unfold readyEffect
  split
  next hs => exact .toLocking hs rfl
  · repeat' split
    all_goals exact .stay rfl

theorem moves_standbyEffect (s : State) : Moves s (standbyEffect s) := by
  unfold standbyEffect
  split
  · exact .toStandby rfl
  · split <;> exact .stay rfl

theorem moves_sleepEffect (s : State) : Moves s (sleepEffect s) := by
  unfold sleepEffect
  split
  next hidle => exact .leaveReady ((readyIdle_iff s).1 hidle).1 (.inl rfl)
  · split <;> exact .stay rfl

theorem moves_rxEffect (s : State) : Moves s (rxEffect s) := by
  unfold rxEffect
  split
  next hidle =>
    rcases rxStrobeInReady_radio s with h | h
    · exact .stay h
    · exact .leaveReady ((readyIdle_iff s).1 hidle).1 (.inr (.inr h))
  · split <;> exact .stay rfl

theorem moves_txEffect (s : State) : Moves s (txEffect s) := by
  unfold txEffect
  split
  next hidle =>
    rcases txStrobeInReady_radio s with h | h
    · exact .stay h
    · exact .leaveReady ((readyIdle_iff s).1 hidle).1 (.inr (.inl h))
  · split <;> exact .stay rfl

theorem moves_sabortEffect (s : State) : Moves s (sabortEffect s) := by
  unfold sabortEffect
  cases hr : s.radio with
  | tx => exact .toReady (.inr (.inl hr)) rfl (readySignalled_signal _)
  | rx => exact .toReady (.inr (.inr hr)) rfl (readySignalled_signal _)
  | ready =>
    dsimp only
    split <;> exact .stay rfl
  | locking => exact .toStandby rfl
  | _ => exact .stay rfl

theorem moves_commandEffect (i : Instr) (s : State) : Moves s (commandEffect i s) := by
  cases i with
  | sres tail => exact .toStandby rfl
  | ready tail => exact moves_readyEffect s
  | standby tail => exact moves_standbyEffect s
  | sleep tail => exact moves_sleepEffect s
  | rx tail => exact moves_rxEffect s
  | tx tail => exact moves_txEffect s
  | sabort tail => exact moves_sabortEffect s
  | flushtx tail =>
    show Moves s (flushtxEffect s)
    unfold flushtxEffect
    split <;> exact .stay rfl
  | _ => exact .stay rfl

theorem moves_offEffect (i : Instr) (s : State) : Moves s (offEffect i s) := by
  cases i with
  | pwrup tail => exact .toStandby rfl
  | _ => exact .stay rfl

theorem Performed.moves {i : Instr} {s t : State} (h : Performed i s t) : Moves s t := by
  cases h with
  | write hp a d => exact .stay (by rw [memWrite_frame])
  | read hp a n => exact .stay (by rw [memRead_frame])
  | command hp n => exact moves_commandEffect i s
  | unpowered hp n => exact moves_offEffect i s

/-- Every step makes one of the moves, from any state. -/
theorem moves_step (s t : State) (ht : step s = .next t) : Moves s t := by
  obtain ⟨-, ⟨-, rfl⟩ | ⟨e, rest, -, ⟨bytes, i, -, -, hexec⟩ | ⟨bytes, -, -, rfl⟩ | ⟨-, rfl⟩⟩⟩ := step_cases s t ht
  · exact .stay rfl
  · exact (performed_of_exec i { s with input := rest } t hexec).2.moves
  · exact .stay rfl
  · exact moves_envStep e { s with input := rest }

/-- Settles O55: every step makes one of the moves, each of which follows an edge. -/
theorem transitionRelation : Obligations.TransitionRelation := by
  intro s t _ ht
  have hmove : Moves s t := moves_step s t ht
  exact ⟨hmove.edge, hmove.enterTx, hmove.enterShutdown⟩

/-- Settles O35: of the moves those into READY are signalled. -/
theorem enteringReadyIsSignalled : Obligations.EnteringReadyIsSignalled := by
  intro s t ht
  exact (moves_step s t ht).enterReady

/-! ## Commands on a powered chip -/

/-- The count of free bytes and the host's index, which the end of a transaction moves on, stand as they are. -/
def KeepsBookkeeping (s t : State) : Prop :=
  t.drawIndex = s.drawIndex ∧ t.txnIndex = s.txnIndex

theorem keepsBookkeeping_txStrobeInReady (s : State) : KeepsBookkeeping s (txStrobeInReady s) := by
  rcases txStrobeInReady_cases s with ⟨h, -⟩ | ⟨-, ⟨h, -⟩ | ⟨h, -⟩⟩ <;> rw [h] <;> exact ⟨rfl, rfl⟩

theorem keepsBookkeeping_rxStrobeInReady (s : State) : KeepsBookkeeping s (rxStrobeInReady s) := by
  rcases rxStrobeInReady_cases s with ⟨h, -⟩ | ⟨h, -⟩ <;> rw [h] <;> exact ⟨rfl, rfl⟩

theorem keepsBookkeeping_commandEffect (i : Instr) (s : State) : KeepsBookkeeping s (commandEffect i s) := by
  cases i
  case rx tail =>
    show KeepsBookkeeping s (rxEffect s)
    unfold rxEffect
    split
    · exact keepsBookkeeping_rxStrobeInReady s
    · split <;> exact ⟨rfl, rfl⟩
  case tx tail =>
    show KeepsBookkeeping s (txEffect s)
    unfold txEffect
    split
    · exact keepsBookkeeping_txStrobeInReady s
    · split <;> exact ⟨rfl, rfl⟩
  case ready | standby | sleep | sabort | flushtx =>
    simp only [commandEffect, readyEffect, standbyEffect, sleepEffect, sabortEffect, flushtxEffect]
    repeat' split
    all_goals exact ⟨rfl, rfl⟩
  all_goals exact ⟨rfl, rfl⟩

/-- A powered chip performs a command's effect, with the bookkeeping of `after` (40_bus_transactions.md R140, R141). -/
theorem transact_command (off : State → State) (i : Instr) (n : Nat) (s : State) (h : Live s) :
    transact off n (command (commandEffect i) n) s = .next (after s n (commandEffect i s)) := by
  obtain ⟨hdraw, htxn⟩ := keepsBookkeeping_commandEffect i s
  rw [transact_of_live off _ n s h, command_eq_after _ n s hdraw htxn]

/-- Under the default codes the bytes of a well-formed instruction are read back (30_encoding.md R112). -/
theorem decode_default (i : Instr) (hi : i.wellFormed StrobeCode.default = true) :
    decode StrobeCode.default (encode StrobeCode.default i) = .ok i :=
  decodeOfEncodeIsIdentity StrobeCode.default i rfl hi

/-! ### SABORT, state by state (41_state_machine.md R176) -/

theorem sabortEffect_tx (s : State) (hr : s.radio = .tx) :
    sabortEffect s = signal .readyReached { s with radio := .ready, txFifo := [] } := by
  simp only [sabortEffect, hr]
  rfl

theorem sabortEffect_rx (s : State) (hr : s.radio = .rx) :
    sabortEffect s =
      signal .readyReached { s with radio := .ready, rxFifo := if s.rx.phase = .hunt then s.rxFifo else [] } := by
  simp only [sabortEffect, hr]
  by_cases hphase : s.rx.phase = .hunt
  · rw [if_neg (not_not.2 hphase), if_pos hphase]
    rfl
  · rw [if_pos hphase, if_neg hphase]
    rfl

theorem sabortEffect_csma (s : State) (hr : s.radio = .ready) (hcsma : s.csma.active = true) :
    sabortEffect s = endCsma 4#8 s := by
  simp only [sabortEffect, hr, hcsma, if_true]

theorem sabortEffect_locking (s : State) (hr : s.radio = .locking) :
    sabortEffect s = { s with radio := .standby, pending := .none } := by
  simp only [sabortEffect, hr]
  rfl

theorem sabortEffect_nop (s : State)
    (hr : s.radio = .standby ∨ s.radio = .sleep ∨ s.radio = .ready ∧ s.csma.active = false) : sabortEffect s = s := by
  rcases hr with hr | hr | ⟨hr, hcsma⟩
  · simp only [sabortEffect, hr]
  · simp only [sabortEffect, hr]
  · simp [sabortEffect, hr, hcsma]

/-! ## The legality table -/

section
variable {s : State} {c : Cell} {tail : Bytes}

/-- A row has one cell in the column of a state, so an effect shown to be that cell's is the effect of `c`. -/
theorem eq_cellEffect {i : Instr} {c' : Cell} {t : State} (hc : legalityCell i s = some c)
    (hc' : legalityCell i s = some c') (ht : t = cellEffect c' s) : t = cellEffect c s := by
  rw [ht, Option.some.inj (hc.symm.trans hc')]

theorem readyEffect_eq_cellEffect (hc : legalityCell (.ready tail) s = some c) : readyEffect s = cellEffect c s := by
  unfold readyEffect
  split
  next hr =>
    refine eq_cellEffect (c' := .toLocking) hc ?_ rfl
    rcases hr with hr | hr <;> simp [legalityCell, hr]
  split
  next hidle => exact eq_cellEffect (c' := .nop) hc (by simp_all [legalityCell, readyIdle_iff]) rfl
  split
  next hr => exact eq_cellEffect (c' := .nop) hc (by simp [legalityCell, hr]) rfl
  · refine eq_cellEffect (c' := .refused) hc ?_ rfl
    cases hr : s.radio <;> simp_all [legalityCell, readyIdle_iff]

theorem standbyEffect_eq_cellEffect (hinv : PowerInv s) (hc : legalityCell (.standby tail) s = some c) :
    standbyEffect s = cellEffect c s := by
  unfold standbyEffect
  split
  next hidle =>
    obtain ⟨-, hpend, -⟩ := hinv.quiet_of_readyIdle hidle
    refine eq_cellEffect (c' := .toStandby) hc (by simp_all [legalityCell, readyIdle_iff]) ?_
    rw [setRadio, cellEffect, ← hpend]
  split
  next hr => exact eq_cellEffect (c' := .nop) hc (by simp [legalityCell, hr]) rfl
  · refine eq_cellEffect (c' := .refused) hc ?_ rfl
    cases hr : s.radio <;> simp_all [legalityCell, readyIdle_iff]

theorem sleepEffect_eq_cellEffect (hc : legalityCell (.sleep tail) s = some c) : sleepEffect s = cellEffect c s := by
  unfold sleepEffect
  split
  next hidle =>
    refine eq_cellEffect (c' := .toSleep) hc (by simp_all [legalityCell, readyIdle_iff]) ?_
    unfold cellEffect
    cases fifoRetain s.regs <;> rfl
  split
  next hr => exact eq_cellEffect (c' := .nop) hc (by simp [legalityCell, hr]) rfl
  · refine eq_cellEffect (c' := .refused) hc ?_ rfl
    cases hr : s.radio <;> simp_all [legalityCell, readyIdle_iff]

theorem rxEffect_eq_cellEffect (hc : legalityCell (.rx tail) s = some c) : rxEffect s = cellEffect c s := by
  unfold rxEffect
  split
  next hidle => exact eq_cellEffect (c' := .startRx) hc (by simp_all [legalityCell, readyIdle_iff]) rfl
  split
  next hr => exact eq_cellEffect (c' := .pendRx) hc (by simp [legalityCell, hr]) rfl
  · refine eq_cellEffect (c' := .refused) hc ?_ rfl
    cases hr : s.radio <;> simp_all [legalityCell, readyIdle_iff]

theorem txEffect_eq_cellEffect (hc : legalityCell (.tx tail) s = some c) : txEffect s = cellEffect c s := by
  unfold txEffect
  split
  next hidle => exact eq_cellEffect (c' := .startTx) hc (by simp_all [legalityCell, readyIdle_iff]) rfl
  split
  next hr => exact eq_cellEffect (c' := .pendTx) hc (by simp [legalityCell, hr]) rfl
  · refine eq_cellEffect (c' := .refused) hc ?_ rfl
    cases hr : s.radio <;> simp_all [legalityCell, readyIdle_iff]

theorem sabortEffect_eq_cellEffect (hc : legalityCell (.sabort tail) s = some c) : sabortEffect s = cellEffect c s := by
  cases hr : s.radio with
  | shutdown => simp [legalityCell, hr] at hc
  | standby => exact eq_cellEffect (c' := .nop) hc (by simp [legalityCell, hr]) (sabortEffect_nop s (.inl hr))
  | sleep => exact eq_cellEffect (c' := .nop) hc (by simp [legalityCell, hr]) (sabortEffect_nop s (.inr (.inl hr)))
  | ready =>
    cases hcsma : s.csma.active with
    | false =>
      exact eq_cellEffect (c' := .nop) hc (by simp [legalityCell, hr, hcsma])
        (sabortEffect_nop s (.inr (.inr ⟨hr, hcsma⟩)))
    | true =>
      exact eq_cellEffect (c' := .endCsma) hc (by simp [legalityCell, hr, hcsma]) (sabortEffect_csma s hr hcsma)
  | locking =>
    exact eq_cellEffect (c' := .toStandby) hc (by simp [legalityCell, hr]) (sabortEffect_locking s hr)
  | rx => exact eq_cellEffect (c' := .abortRx) hc (by simp [legalityCell, hr]) (sabortEffect_rx s hr)
  | tx => exact eq_cellEffect (c' := .abortTx) hc (by simp [legalityCell, hr]) (sabortEffect_tx s hr)

theorem flushtxEffect_eq_cellEffect (hinv : PowerInv s) (hc : legalityCell (.flushtx tail) s = some c) :
    flushtxEffect s = cellEffect c s := by
  unfold flushtxEffect
  split
  next hcommitted =>
    refine eq_cellEffect (c' := .refused) hc ?_ rfl
    rcases hcommitted with hr | hcsma
    · simp [legalityCell, hr]
    · simp [legalityCell, hinv.2.2 hcsma, hcsma]
  next hfree =>
    refine eq_cellEffect (c' := .flushTx) hc ?_ rfl
    cases hr : s.radio <;> simp_all [legalityCell]

/-- In every column each strobe's effect is that of its cell (41_state_machine.md R171). -/
theorem commandEffect_eq_cellEffect (i : Instr) (hinv : PowerInv s) (hc : legalityCell i s = some c) :
    commandEffect i s = cellEffect c s := by
  cases i
  case ready tail => exact readyEffect_eq_cellEffect hc
  case standby tail => exact standbyEffect_eq_cellEffect hinv hc
  case sleep tail => exact sleepEffect_eq_cellEffect hc
  case rx tail => exact rxEffect_eq_cellEffect hc
  case tx tail => exact txEffect_eq_cellEffect hc
  case sabort tail => exact sabortEffect_eq_cellEffect hc
  case flushtx tail => exact flushtxEffect_eq_cellEffect hinv hc
  case pwrup | sres | flushrx | reservedStrobe =>
    -- these rows have one cell in all their columns
    cases hr : s.radio <;> simp [legalityCell, hr] at hc
    all_goals
      subst hc
      rfl
  all_goals cases hc

end

/-- Settles O32: a strobe's bytes are its code's transaction, and its effect is its cell's. -/
theorem strobeLegalityTable : Obligations.StrobeLegalityTable := by
  intro s i c hlive hinv hc
  rw [← commandEffect_eq_cellEffect i hinv hc]
  have hcommand (off : State → State) (n : Nat) := transact_command off i n s hlive
  cases i
  case poll | fifoWrite | write | burstWrite | fifoRead | read | burstRead | reservedHeader => cases hc
  all_goals exact hcommand _ _

/-! ## Reset -/

/-- From 0x18 on every register, the pins' among them, is 0x00 after a reset (10_state.md R30). -/
theorem regGet_reset_of_le (n : Nat) (a : Byte) (r : Reg) (ha : 0x18 ≤ a.toNat) (hr : regAt n a = some r) :
    regGet (Regs.reset n) r = 0x00#8 := by
  rw [regAddr_of_regAt n a r hr] at ha
  cases r
  case gpioCfg k => simp [regGet, Regs.reset]
  all_goals simp_all [regAddr, regGet, Regs.reset]

/-- Settles O21: the power-up of an unpowered chip, CMD_ERR on a powered one, and the reset values. -/
theorem pwrupPowersUpOnce : Obligations.PwrupPowersUpOnce := by
  refine ⟨fun tail => decode_default (.pwrup tail) rfl, fun s tail hf => ?_,
    fun n => ⟨rfl, regGet_reset_of_le n, List.length_replicate⟩⟩
  by_cases hp : s.powered = false
  · rw [if_pos hp]
    exact exec_of_unpowered (.pwrup tail) s hf hp
  · rw [if_neg hp]
    exact transact_command powerUp (.pwrup tail) tail.length s ⟨hf, by simpa using hp⟩

/-- After a reset both FIFOs are empty, not full, and the chip stands in STANDBY (70_reset_and_hazards.md R392). -/
theorem statusWord_sresEffect (s : State) (hcfg : s.cfg.legal = true) : statusWord (sresEffect s) = 0x0051#16 := by
  have hcap : s.cfg.fifoCap = 64 ∨ s.cfg.fifoCap = 128 := by
    simp only [Config.legal, Bool.and_eq_true, Bool.or_eq_true, beq_iff_eq] at hcfg
    tauto
  show statusWord (setRadio .standby (resetAll s)) = 0x0051#16
  rw [statusWord_of_powered _ rfl]
  rcases hcap with h | h <;>
    simp [h, rxInFrame, errBits, ErrFlags.clear, CsmaEngine.reset, pendingCode, radioCode]

/-- Settles O22: SRES's effect with its frame, the status after it, and the reset values. -/
theorem sresResetsEverything : Obligations.SresResetsEverything := by
  refine ⟨fun tail => decode_default (.sres tail) rfl, fun s tail hlive => ?_,
    fun n => ⟨rfl, regGet_reset_of_le n, List.length_replicate⟩⟩
  refine ⟨_, transact_command id (.sres tail) tail.length s hlive, ?_, statusWord_sresEffect s⟩
  -- the powered chip keeps its power, which `resetAll` writes again
  rw [hlive.2]
  rfl

/-! ## The strobes one by one -/

/-- Settles O24: the effect's branches, those that do nothing taken together. -/
theorem readyStrobe : Obligations.ReadyStrobe := by
  intro s tail hlive
  refine ⟨decode_default (.ready tail) rfl, ?_⟩
  calc exec (.ready tail) s
    _ = .next (after s tail.length (readyEffect s)) := transact_command id (.ready tail) tail.length s hlive
    _ = _ := by
      simp only [readyEffect, readyIdle_iff, ite_or]
      rfl

/-- Settles O25: the effect's branches. -/
theorem standbyStrobe : Obligations.StandbyStrobe := by
  intro s tail hlive
  refine ⟨decode_default (.standby tail) rfl, ?_⟩
  calc exec (.standby tail) s
    _ = .next (after s tail.length (standbyEffect s)) := transact_command id (.standby tail) tail.length s hlive
    _ = _ := by
      simp only [standbyEffect, readyIdle_iff]
      rfl

/-- Settles O26: the effect's branches, with the choice of FIFO_RETAIN made before SLEEP is entered. -/
theorem sleepStrobe : Obligations.SleepStrobe := by
  intro s tail hlive
  refine ⟨decode_default (.sleep tail) rfl, ?_⟩
  calc exec (.sleep tail) s
    _ = .next (after s tail.length (sleepEffect s)) := transact_command id (.sleep tail) tail.length s hlive
    _ = _ := by
      simp only [sleepEffect, readyIdle_iff, apply_ite (setRadio .sleep)]
      rfl

/-- Settles O27: the effect's branches, the filter read from its registers. -/
theorem rxStrobe : Obligations.RxStrobe := by
  intro s tail hlive
  refine ⟨decode_default (.rx tail) rfl, ?_⟩
  calc exec (.rx tail) s
    _ = .next (after s tail.length (rxEffect s)) := transact_command id (.rx tail) tail.length s hlive
    _ = _ := by
      simp only [rxEffect, readyIdle_iff]
      rfl

/-- Settles O28: the lengths by register, then the effect's branches with the first window written out. -/
theorem txStrobe : Obligations.TxStrobe := by
  refine ⟨fun s => ⟨pair_toNat _ _, rfl, rfl⟩, fun s tail hlive => ⟨decode_default (.tx tail) rfl, ?_⟩⟩
  calc exec (.tx tail) s
    _ = .next (after s tail.length (txEffect s)) := transact_command id (.tx tail) tail.length s hlive
    _ = _ := by
      simp only [txEffect, readyIdle_iff]
      rfl

/-- Settles O29: SABORT's effect in each state. -/
theorem sabortStrobe : Obligations.SabortStrobe := by
  intro s tail hlive
  refine ⟨decode_default (.sabort tail) rfl, sabortEffect s,
    transact_command id (.sabort tail) tail.length s hlive, sabortEffect_tx s, fun hr hphase => ?_,
    fun hr hphase => ?_, sabortEffect_csma s, sabortEffect_locking s, sabortEffect_nop s⟩
  · rw [sabortEffect_rx s hr, if_neg hphase]
  · rw [sabortEffect_rx s hr, if_pos hphase]

/-- Settles O30: both effects as they are defined. -/
theorem flushStrobes : Obligations.FlushStrobes := by
  intro s tail hlive
  exact ⟨decode_default (.flushtx tail) rfl, transact_command id (.flushtx tail) tail.length s hlive,
    decode_default (.flushrx tail) rfl, transact_command id (.flushrx tail) tail.length s hlive⟩

/-- The codes of the default map are the ten of 30_encoding.md R112. -/
theorem definedStrobeCode_default (c : Byte)
    (hc : c.toNat ∉ [0x60, 0x61, 0x62, 0x63, 0x64, 0x67, 0x70, 0x71, 0x72, 0x7E]) :
    definedStrobeCode StrobeCode.default c = false := by
  have h : c ∉ StrobeCode.default.codes := fun hmem => hc (List.mem_map_of_mem (f := BitVec.toNat) hmem)
  simpa [definedStrobeCode] using h

/-- Settles O31: what the decoder reads as reserved, and the one effect of both kinds. -/
theorem reservedCodesSetCmdErr : Obligations.ReservedCodesSetCmdErr := by
  intro s c tail hlive
  refine ⟨fun hc => ⟨decode_default (.reservedStrobe c tail) ?code, ?strobe⟩,
    fun h h00 h01 h80 => ⟨decode_of_not_definedHeader _ h c tail ?header, ?reserved⟩⟩
  case code => simp [Instr.wellFormed, definedStrobeCode_default c hc]
  case strobe => exact transact_command id (.reservedStrobe c tail) tail.length s hlive
  case header => simp [definedHeader, h00, h01, h80]
  case reserved => exact transact_command id (.reservedHeader h c tail) tail.length s hlive

/-! ## The lock results -/

/-- Settles O33: `LockResult` is enabled in LOCKING; after READY is reached the pending request is carried out. -/
theorem lockResults : Obligations.LockResults := by
  intro s rest hf hr
  have hstep (ok : Bool) (hi : s.input = .lockResult ok :: rest) :
      step s = .next (lockResult ok { s with input := rest }) := by
    rw [step_of_environment_input s _ rest hf hi nofun, envStep, inputEnabled_setInput]
    exact congrArg Host.Outcome.next (if_pos (decide_eq_true hr))
  refine ⟨hstep false, fun hi u hu => ?_⟩
  have hsuccess : step s = .next (carryOut s.pending u) := by
    rw [hstep true hi, lockResult_true, hu]
    rfl
  exact ⟨fun hp => by rw [hsuccess, hp, carryOut], fun hp => by rw [hsuccess, hp, carryOut],
    fun hp => by rw [hsuccess, hp, carryOut]⟩

end Sys2Proof.Machine
end

section
/-! PROOFS of the family `42_packet_engine.md`. The pure functions of the packet engine (O39 to O42), the TX serializer (O36
to O38) and the RX deserializer (O43 to O46). -/

namespace Sys2Proof.Machine

open Sys2Proof

/-! ## Byte strings as numbers -/

/-- The number that a byte string spells, most significant byte first (20_memory.md R71). -/
def bigEndian (bs : List Byte) : Nat :=
  Nat.ofDigits 256 (bs.reverse.map BitVec.toNat)

theorem bigEndian_nil : bigEndian [] = 0 := rfl

theorem bigEndian_append_singleton (bs : List Byte) (b : Byte) :
    bigEndian (bs ++ [b]) = b.toNat + 256 * bigEndian bs := by
  simp [bigEndian, Nat.ofDigits_cons]

theorem bigEndian_cons (b : Byte) (bs : List Byte) :
    bigEndian (b :: bs) = bigEndian bs + 256 ^ bs.length * b.toNat := by
  simp [bigEndian, Nat.ofDigits_append]

theorem toNat_lt_of_mem_map {bs : List Byte} : ∀ d ∈ bs.reverse.map BitVec.toNat, d < 256 := by
  intro d hd
  obtain ⟨b, -, rfl⟩ := List.mem_map.1 hd
  exact b.isLt

theorem bigEndian_lt (bs : List Byte) : bigEndian bs < 256 ^ bs.length := by
  simpa [bigEndian] using Nat.ofDigits_lt_base_pow_length (by decide) (toNat_lt_of_mem_map (bs := bs))

theorem bigEndian_inj {as bs : List Byte} (hlen : as.length = bs.length) (h : bigEndian as = bigEndian bs) :
    as = bs := by
  have hdigits := Nat.ofDigits_inj_of_len_eq (by decide : 1 < 256) (by simpa using hlen)
    (toNat_lt_of_mem_map (bs := as)) (toNat_lt_of_mem_map (bs := bs)) h
  exact List.reverse_injective ((List.map_injective_iff.2 fun _ _ => BitVec.eq_of_toNat_eq) hdigits)

@[simp] theorem bytesBE_length (n : Nat) (v : BitVec 32) : (bytesBE n v).length = n := by
  simp [bytesBE_eq]

theorem bigEndian_bytesBE (n : Nat) (v : BitVec 32) : bigEndian (bytesBE n v) = v.toNat % 256 ^ n := by
  induction n with
  | zero => simp [bytesBE, bigEndian_nil, Nat.mod_one]
  | succ n ih =>
    have hpow : 2 ^ (8 * n) = 256 ^ n := by rw [pow_mul]; rfl
    rw [bytesBE, bigEndian_cons, ih, bytesBE_length, BitVec.extractLsb'_toNat, Nat.shiftRight_eq_div_pow, hpow,
      pow_succ 256 n, Nat.mod_mul]

theorem lenValue_eq_bigEndian (bs : List Byte) (h : bs.length ≤ 2) : lenValue bs = bigEndian bs := by
  match bs, h with
  | [], _ => rfl
  | [a], _ => simp [lenValue, bigEndian]
  | [a, b], _ => simp [lenValue, bigEndian, Nat.ofDigits_cons]; omega

/-! ## The CRC -/

theorem crcMask_getLsbD (m : CrcMode) (i : Nat) : (crcMask m).getLsbD i = decide (i < crcWidth m) := by
  have hw : crcWidth m ≤ 32 := by cases m <;> decide
  rw [crcMask, BitVec.getLsbD_ofNat, Nat.testBit_two_pow_sub_one]
  grind

/-- Bit 0 of the new accumulator is what was fed back: every polynomial has the term 1 (42_packet_engine.md R222). -/
theorem crcBit_getLsbD_zero (m : CrcMode) (acc : BitVec 32) (b : Bool) (hm : m ≠ .none) :
    (crcBit m acc b).getLsbD 0 = (b ^^ acc.getLsbD (crcWidth m - 1)) := by
  have hp : (crcPoly m).getLsbD 0 = true := by cases m with
    | none => exact absurd rfl hm
    | _ => rfl
  unfold crcBit
  dsimp only
  split
  next h => simp [h, hp]
  next h => simp [h]

/-- What a bit feeds back can be read off the new accumulator, so the shifted one can be, too. -/
theorem crcBit_inj_shifted (m : CrcMode) (a a' : BitVec 32) (b b' : Bool) (hm : m ≠ .none)
    (h : crcBit m a b = crcBit m a' b') :
    (b ^^ a.getLsbD (crcWidth m - 1)) = (b' ^^ a'.getLsbD (crcWidth m - 1)) ∧
      (a <<< 1) &&& crcMask m = (a' <<< 1) &&& crcMask m := by
  have hfb : (b ^^ a.getLsbD (crcWidth m - 1)) = (b' ^^ a'.getLsbD (crcWidth m - 1)) := by
    rw [← crcBit_getLsbD_zero m a b hm, ← crcBit_getLsbD_zero m a' b' hm, h]
  refine ⟨hfb, ?_⟩
  unfold crcBit at h
  dsimp only at h
  rw [hfb] at h
  split at h
  · exact (BitVec.xor_left_inj _).1 h
  · exact h

/-- The division can be undone: one bit takes different `W`-bit accumulators to different ones. -/
theorem crcBit_inj (m : CrcMode) (a a' : BitVec 32) (b : Bool) (hm : m ≠ .none) (ha : a.toNat < 2 ^ crcWidth m)
    (ha' : a'.toNat < 2 ^ crcWidth m) (h : crcBit m a b = crcBit m a' b) : a = a' := by
  obtain ⟨hfb, hshift⟩ := crcBit_inj_shifted m a a' b b hm h
  have htop : a.getLsbD (crcWidth m - 1) = a'.getLsbD (crcWidth m - 1) := by simpa using hfb
  refine BitVec.eq_of_getLsbD_eq fun i hi => ?_
  rcases lt_trichotomy (i + 1) (crcWidth m) with hlt | heq | hgt
  · have hbit := congrArg (·.getLsbD (i + 1)) hshift
    have hw : crcWidth m ≤ 32 := by cases m <;> decide
    have hi' : i + 1 < 32 := by omega
    simpa [crcMask_getLsbD, hlt, hi', -BitVec.getLsbD_eq_getElem] using hbit
  · rw [show i = crcWidth m - 1 by omega, htop]
  · have hpow : 2 ^ crcWidth m ≤ 2 ^ i := Nat.pow_le_pow_right (by decide) (by omega)
    rw [BitVec.getLsbD, BitVec.getLsbD, Nat.testBit_lt_two_pow (ha.trans_le hpow),
      Nat.testBit_lt_two_pow (ha'.trans_le hpow)]

theorem foldl_crcBit_lt (m : CrcMode) (bits : List Bool) (a : BitVec 32) (ha : a.toNat < 2 ^ crcWidth m) :
    (bits.foldl (crcBit m) a).toNat < 2 ^ crcWidth m := by
  induction bits generalizing a with
  | nil => exact ha
  | cons b bits ih => exact ih _ (crcBit_lt m a b)

theorem foldl_crcBit_inj (m : CrcMode) (bits : List Bool) (a a' : BitVec 32) (hm : m ≠ .none)
    (ha : a.toNat < 2 ^ crcWidth m) (ha' : a'.toNat < 2 ^ crcWidth m)
    (h : bits.foldl (crcBit m) a = bits.foldl (crcBit m) a') : a = a' := by
  induction bits generalizing a a' with
  | nil => exact h
  | cons b bits ih => exact crcBit_inj m a a' b hm ha ha' (ih _ _ (crcBit_lt m a b) (crcBit_lt m a' b) h)

/-- One inverted bit changes the remainder (42_packet_engine.md R252). -/
theorem foldl_crcBit_ne_of_bit (m : CrcMode) (pre post : List Bool) (b : Bool) (a : BitVec 32) (hm : m ≠ .none) :
    (pre ++ b :: post).foldl (crcBit m) a ≠ (pre ++ (!b) :: post).foldl (crcBit m) a := by
  simp only [List.foldl_append, List.foldl_cons]
  intro h
  have hbit := foldl_crcBit_inj m post _ _ hm (crcBit_lt m _ b) (crcBit_lt m _ (!b)) h
  have hfb := (crcBit_inj_shifted m _ _ b (!b) hm hbit).1
  cases b <;> simp at hfb

/-! ## One flipped bit -/

@[simp] theorem flipBit_length (i : Nat) (bs : List Byte) : (flipBit i bs).length = bs.length := by
  simp [flipBit]

/-- The flipped bit stands in one byte; the bytes before and after it stay. -/
theorem flipBit_split (i : Nat) (bs : List Byte) (h : i / 8 < bs.length) :
    ∃ pre b post, bs = pre ++ b :: post ∧ flipBit i bs = pre ++ (b ^^^ ((1 : Byte) <<< (i % 8))) :: post :=
  ⟨bs.take (i / 8), bs[i / 8], bs.drop (i / 8 + 1), by simp, List.modify_eq_take_cons_drop h⟩

theorem flipBit_append_left (i : Nat) (as bs : List Byte) (h : i / 8 < as.length) :
    flipBit i (as ++ bs) = flipBit i as ++ bs := by
  refine List.ext_getElem (by simp) fun j hj hj' => ?_
  simp only [flipBit, List.getElem_modify, List.getElem_append, List.length_modify]
  grind

theorem flipBit_append_right (i : Nat) (as bs : List Byte) (h : as.length ≤ i / 8) :
    flipBit i (as ++ bs) = as ++ flipBit (i - 8 * as.length) bs := by
  refine List.ext_getElem (by simp) fun j hj hj' => ?_
  simp only [flipBit, List.getElem_modify, List.getElem_append]
  grind

/-- Flipping bit `k` of a byte inverts one of its bits in the order of transmission. -/
theorem bitsMsbFirst_flip (b : Byte) (k : Nat) (hk : k < 8) :
    bitsMsbFirst (b ^^^ ((1 : Byte) <<< k)) = (bitsMsbFirst b).modify (7 - k) not := by
  interval_cases k <;> simp [bitsMsbFirst]

theorem crc_eq_foldl_crcBit (f : FrameCfg) (bs : List Byte) :
    crc f bs = (bs.flatMap bitsMsbFirst).foldl (crcBit f.crcMode) (crcInitOf f.crcInit f.crcMode) := by
  rw [List.foldl_flatMap]
  rfl

/-- The CRC sees every single flipped bit (42_packet_engine.md R252). -/
theorem crc_flipBit_ne (f : FrameCfg) (bs : List Byte) (i : Nat) (hm : f.crcMode ≠ .none) (h : i / 8 < bs.length) :
    crc f (flipBit i bs) ≠ crc f bs := by
  obtain ⟨pre, b, post, hbs, hflip⟩ := flipBit_split i bs h
  have hk : 7 - i % 8 < (bitsMsbFirst b).length := Nat.lt_succ_of_le (Nat.sub_le 7 _)
  have hbyte : bitsMsbFirst b =
      (bitsMsbFirst b).take (7 - i % 8) ++ (bitsMsbFirst b)[7 - i % 8] :: (bitsMsbFirst b).drop (7 - i % 8 + 1) := by
    simp
  rw [hflip, hbs, crc_eq_foldl_crcBit, crc_eq_foldl_crcBit, List.flatMap_append, List.flatMap_append, List.flatMap_cons,
    List.flatMap_cons, bitsMsbFirst_flip b _ (Nat.mod_lt i (by decide)), List.modify_eq_take_cons_drop hk]
  conv_rhs => rw [hbyte]
  simp only [List.append_assoc, List.cons_append]
  rw [← List.append_assoc, ← List.append_assoc]
  exact (foldl_crcBit_ne_of_bit f.crcMode _ _ _ _ hm).symm

theorem flipBit_ne (i : Nat) (bs : List Byte) (h : i / 8 < bs.length) : flipBit i bs ≠ bs := by
  obtain ⟨pre, b, post, hbs, hflip⟩ := flipBit_split i bs h
  rw [hflip]
  intro heq
  have hb : b ^^^ ((1 : Byte) <<< (i % 8)) = b := by
    rw [hbs] at heq
    simpa using heq
  have hbit : i % 8 < 8 := Nat.mod_lt i (by decide)
  have := congrArg (·.getLsbD (i % 8)) hb
  simp [hbit] at this

/-! ## The fields of a frame -/

@[simp] theorem preamble_length (f : FrameCfg) : (preamble f).length = f.preambleLen := List.length_replicate

@[simp] theorem syncWord_length (f : FrameCfg) : (syncWord f).length = f.syncLen := bytesBE_length _ _

@[simp] theorem lenField_length (f : FrameCfg) (l : Nat) : (lenField f l).length = lenBytesCount f := by
  unfold lenField lenBytesCount
  split <;> rfl

@[simp] theorem crcBytes_length (f : FrameCfg) (v : BitVec 32) : (crcBytes f v).length = crcCount f :=
  bytesBE_length _ _

theorem lenBytesCount_pos (f : FrameCfg) : 0 < lenBytesCount f := by
  unfold lenBytesCount
  split <;> decide

theorem lenBytesCount_le (f : FrameCfg) : lenBytesCount f ≤ 2 := by
  unfold lenBytesCount
  split <;> decide

theorem crcWidth_eq (f : FrameCfg) : crcWidth f.crcMode = 8 * crcCount f := by
  unfold crcCount
  cases f.crcMode <;> rfl

theorem two_pow_crcWidth (f : FrameCfg) : 2 ^ crcWidth f.crcMode = 256 ^ crcCount f := by
  rw [crcWidth_eq, pow_mul]
  rfl

/-- There is a CRC field exactly where a CRC is configured (10_state.md R32). -/
theorem crcCount_pos_iff (f : FrameCfg) : 0 < crcCount f ↔ f.crcMode ≠ .none := by
  unfold crcCount
  cases f.crcMode <;> decide

theorem crcCount_le (f : FrameCfg) : crcCount f ≤ 4 := by
  unfold crcCount
  cases f.crcMode <;> decide

/-- The length field holds every length up to LMAX (42_packet_engine.md R221). -/
theorem lenValue_lenField (f : FrameCfg) (l : Nat) (h : l ≤ lenMax f) : lenValue (lenField f l) = l := by
  unfold lenMax at h
  unfold lenField
  split <;> simp_all [lenValue] <;> omega

/-- What the frame carries between the length field and the CRC: address, control byte and payload. -/
def inner (f : FrameCfg) (payload : List Byte) (dest ctrl : Byte) : List Byte :=
  addrField f dest ++ ctrlField f ctrl ++ payload

theorem header_append_payload (f : FrameCfg) (payload : List Byte) (dest ctrl : Byte) :
    header f payload.length dest ctrl ++ payload =
      lenField f (payload.length + overhead f) ++ inner f payload dest ctrl := by
  simp [header, inner]

@[simp] theorem addrField_length (f : FrameCfg) (dest : Byte) : (addrField f dest).length = f.addrEn.toNat := by
  unfold addrField
  cases f.addrEn <;> rfl

@[simp] theorem ctrlField_length (f : FrameCfg) (ctrl : Byte) : (ctrlField f ctrl).length = f.ctrlEn.toNat := by
  unfold ctrlField
  cases f.ctrlEn <;> rfl

@[simp] theorem inner_length (f : FrameCfg) (payload : List Byte) (dest ctrl : Byte) :
    (inner f payload dest ctrl).length = payload.length + overhead f := by
  simp [inner, overhead]
  omega

/-- A CRC value of `W` bits and its bytes say the same (42_packet_engine.md R224). -/
theorem crcBytes_inj (f : FrameCfg) (v w : BitVec 32) (hv : v.toNat < 2 ^ crcWidth f.crcMode)
    (hw : w.toNat < 2 ^ crcWidth f.crcMode) (h : crcBytes f v = crcBytes f w) : v = w := by
  have hval := congrArg bigEndian h
  simp only [crcBytes, bigEndian_bytesBE] at hval
  rw [two_pow_crcWidth] at hv hw
  rw [Nat.mod_eq_of_lt hv, Nat.mod_eq_of_lt hw] at hval
  exact BitVec.eq_of_toNat_eq hval

theorem crcInitOf_lt (c : CrcInit) (m : CrcMode) : (crcInitOf c m).toNat < 2 ^ crcWidth m := by
  cases m with
  | none => exact Nat.one_pos
  | crc8 => exact (BitVec.toNat_setWidth_of_le (by decide)).trans_lt c.w8.isLt
  | crc16x8005 => exact (BitVec.toNat_setWidth_of_le (by decide)).trans_lt c.w16.isLt
  | crc16x1021 => exact (BitVec.toNat_setWidth_of_le (by decide)).trans_lt c.w16.isLt
  | crc24 => exact (BitVec.toNat_setWidth_of_le (by decide)).trans_lt c.w24.isLt
  | crc32 => exact c.w32.isLt

theorem crc_lt (f : FrameCfg) (bs : List Byte) : (crc f bs).toNat < 2 ^ crcWidth f.crcMode := by
  rw [crc_eq_foldl_crcBit]
  exact foldl_crcBit_lt _ _ _ (crcInitOf_lt _ _)

/-! ## Encode -/

theorem encodeFrame_eq_some (f : FrameCfg) (payload raw : List Byte) (dest ctrl : Byte)
    (h : encodeFrame f payload dest ctrl = some raw) :
    payload.length + overhead f ≤ lenMax f ∧
      raw = preamble f ++ syncWord f ++
        (lenField f (payload.length + overhead f) ++
          (inner f payload dest ctrl ++
            trailer f (lenField f (payload.length + overhead f) ++ inner f payload dest ctrl))) := by
  unfold encodeFrame at h
  rw [header_append_payload] at h
  split at h
  next hfits => exact ⟨hfits, by simpa using h.symm⟩
  next => cases h

/-! ## Decode -/

/-- Decode looks for the preamble and the sync word, then judges the body (42_packet_engine.md R227). -/
theorem decodeFrame_append (f : FrameCfg) (start body : List Byte) (h : start.length = f.preambleLen + f.syncLen) :
    decodeFrame f (start ++ body) =
      if start = preamble f ++ syncWord f then decodeBody f body else .syncNotFound := by
  unfold decodeFrame
  simp only [← h, List.take_left, List.drop_left, List.length_append]
  grind

/-- A body is judged where what follows its length field is as long as that field says (42_packet_engine.md R227). -/
theorem decodeBody_append (f : FrameCfg) (len body : List Byte) (h : len.length = lenBytesCount f) :
    decodeBody f (len ++ body) =
      if lenValue len < overhead f ∨ body.length ≠ lenValue len + crcCount f then .lengthMismatch
      else judgeFrame f (len ++ body.take (lenValue len)) (body.drop (lenValue len)) := by
  unfold decodeBody
  simp only [← h, List.take_left, List.take_length_add_append, List.drop_length_add_append, List.length_append]
  grind

theorem judgeFrame_of_crc_ne (f : FrameCfg) (region received : List Byte) (hm : f.crcMode ≠ .none)
    (h : received ≠ crcBytes f (crc f region)) : judgeFrame f region received = .crcError :=
  if_pos ⟨hm, h⟩

theorem trailer_of_crc (f : FrameCfg) (region : List Byte) (hm : f.crcMode ≠ .none) :
    trailer f region = crcBytes f (crc f region) := if_neg hm

theorem trailer_length (f : FrameCfg) (region : List Byte) : (trailer f region).length = crcCount f := by
  unfold trailer
  split
  next h => simp [crcCount, h, crcBytesCount]
  next => simp

/-- Settles O42: the bit stands before, in or after the length field, and each of the three has its own check. -/
theorem singleBitFlipIsNeverAccepted : Obligations.SingleBitFlipIsNeverAccepted := by
  intro f payload raw dest ctrl i hm hraw hi
  obtain ⟨hfits, rfl⟩ := encodeFrame_eq_some f payload raw dest ctrl hraw
  have hvalue := lenValue_lenField f _ hfits
  have hstart : (preamble f ++ syncWord f).length = f.preambleLen + f.syncLen := by simp
  have hlenField := lenField_length f (payload.length + overhead f)
  have hinner := inner_length f payload dest ctrl
  have htrailer := trailer_length f (lenField f (payload.length + overhead f) ++ inner f payload dest ctrl)
  generalize hlen : lenField f (payload.length + overhead f) = len at *
  generalize inner f payload dest ctrl = fields at *
  split
  next hsync =>
    rw [flipBit_append_left _ _ _ (by omega), decodeFrame_append _ _ _ (by simp [hstart]),
      if_neg (flipBit_ne _ _ (by omega))]
  next hsync =>
  rw [flipBit_append_right _ _ _ (by omega), decodeFrame_append _ _ _ hstart, if_pos rfl]
  set j := i - 8 * (preamble f ++ syncWord f).length
  have hj : i / 8 = f.preambleLen + f.syncLen + j / 8 := by omega
  split
  next hl =>
    rw [flipBit_append_left _ _ _ (by omega), decodeBody_append _ _ _ (by simp [hlenField])]
    have hne : lenValue (flipBit j len) ≠ lenValue len := by
      have hle := lenBytesCount_le f
      rw [lenValue_eq_bigEndian _ (by simp; omega), lenValue_eq_bigEndian _ (by omega)]
      exact fun h => flipBit_ne j len (by omega) (bigEndian_inj (by simp) h)
    refine if_pos (.inr ?_)
    simp only [List.length_append]
    omega
  next hl =>
    rw [flipBit_append_right _ _ _ (by omega), decodeBody_append _ _ _ hlenField, if_neg (by simp; omega), hvalue,
      ← hinner]
    set k := j - 8 * len.length
    have hk : j / 8 = lenBytesCount f + k / 8 := by omega
    by_cases hf : k / 8 < fields.length
    · rw [flipBit_append_left _ _ _ hf, List.take_left' (by simp), List.drop_left' (by simp)]
      refine judgeFrame_of_crc_ne f _ _ hm fun h => ?_
      have hsame := crcBytes_inj f _ _ (crc_lt _ _) (crc_lt _ _) ((trailer_of_crc f _ hm).symm.trans h)
      have hflip := crc_flipBit_ne f (len ++ fields) j hm (by simp; omega)
      rw [flipBit_append_right _ _ _ (by omega)] at hflip
      exact hflip hsame.symm
    · rw [flipBit_append_right _ _ _ (by omega), List.take_left, List.drop_left]
      refine judgeFrame_of_crc_ne f _ _ hm ?_
      rw [← trailer_of_crc f _ hm]
      refine flipBit_ne _ _ ?_
      simp only [List.length_append] at hi hstart
      omega

/-! ## The CRC field -/

/-- R223's division over the bits of a region, for any width, polynomial and initial value. -/
def bitwiseCrc (w : Nat) (poly init : BitVec 32) (region : List Byte) : BitVec 32 :=
  (region.flatMap (fun b => (List.range 8).reverse.map b.getLsbD)).foldl
    (fun acc bit =>
      if bit ^^ acc.getLsbD (w - 1) then (acc <<< 1 &&& BitVec.ofNat 32 (2 ^ w - 1)) ^^^ poly
      else acc <<< 1 &&& BitVec.ofNat 32 (2 ^ w - 1))
    init

theorem crc_eq_bitwiseCrc (f : FrameCfg) (region : List Byte) :
    crc f region = bitwiseCrc (crcWidth f.crcMode) (crcPoly f.crcMode) (crcInitOf f.crcInit f.crcMode) region :=
  crc_eq_foldl_crcBit f region

/-- The CRC field is the remainder's bytes, most significant first (42_packet_engine.md R224). -/
theorem trailer_eq_bitwiseCrc (f : FrameCfg) (region : List Byte) (hm : f.crcMode ≠ .none) :
    trailer f region =
      (List.range (crcCount f)).reverse.map (fun k =>
        (bitwiseCrc (crcWidth f.crcMode) (crcPoly f.crcMode) (crcInitOf f.crcInit f.crcMode) region).extractLsb'
          (8 * k) 8) := by
  rw [trailer_of_crc f region hm, crcBytes, bytesBE_eq, crc_eq_bitwiseCrc]

/-- Settles O39: the field is R223's remainder in every mode's width, and the check values are computed. -/
theorem crcFieldAndCheckValues : Obligations.CrcFieldAndCheckValues := by
  refine ⟨fun f region => ?_, by decide +kernel⟩
  dsimp only
  by_cases hm : f.crcMode = .none
  · rw [trailer, if_pos hm, hm]
  · rw [trailer_eq_bitwiseCrc f region hm, crcCount]
    cases hmode : f.crcMode with
    | none => exact absurd hmode hm
    | crc8 => rfl
    | crc16x8005 => rfl
    | crc16x1021 => rfl
    | crc24 => rfl
    | crc32 => rfl

/-! ## The address filter -/

/-- Settles O40: the three ways to pass, for a configuration and for the registers it is read from. -/
theorem addressFilter : Obligations.AddressFilter := by
  have haccepts (f : FrameCfg) (a : Byte) :
      accepts f a = true ↔ f.filtEn = false ∨ a = f.localAddr ∨ f.bcastEn = true ∧ a = f.bcastAddr := by
    simp [accepts, or_assoc]
  exact ⟨haccepts, fun s => haccepts (frameCfgOf s)⟩

/-! ## The bytes of a frame -/

theorem lenField_eq (f : FrameCfg) (l : Nat) :
    lenField f l =
      if f.lenWide then [BitVec.ofNat 8 (l / 256), BitVec.ofNat 8 (l % 256)] else [BitVec.ofNat 8 (l % 256)] := by
  have hlow : BitVec.ofNat 8 (l % 256) = BitVec.ofNat 8 l := BitVec.eq_of_toNat_eq (by simp)
  rw [lenField, hlow]

/-- The address and control bytes of a region stand after its length field (30_encoding.md R123, R124). -/
theorem getElem?_fields (f : FrameCfg) (len payload : List Byte) (dest ctrl : Byte) (h : len.length = lenBytesCount f) :
    (if f.addrEn then (len ++ inner f payload dest ctrl)[lenBytesCount f]? else none) =
        (if f.addrEn then some dest else none) ∧
      (if f.ctrlEn then (len ++ inner f payload dest ctrl)[lenBytesCount f + f.addrEn.toNat]? else none) =
        (if f.ctrlEn then some ctrl else none) := by
  rw [← h, inner, addrField, ctrlField]
  cases f.addrEn <;> cases f.ctrlEn <;> simp

/-- What Decode makes of the region of an encoded frame with its own CRC (42_packet_engine.md R227, R251). -/
theorem judgeFrame_inner (f : FrameCfg) (len payload received : List Byte) (dest ctrl : Byte)
    (hlen : len.length = lenBytesCount f) (hfilt : f.filtEn = true → f.addrEn = true)
    (hcrc : f.crcMode ≠ .none → received = crcBytes f (crc f (len ++ inner f payload dest ctrl))) :
    judgeFrame f (len ++ inner f payload dest ctrl) received =
      if f.filtEn = true ∧ accepts f dest = false then .filtered
      else .accept payload (if f.addrEn then some dest else none) (if f.ctrlEn then some ctrl else none) := by
  obtain ⟨haddr, hctrl⟩ := getElem?_fields f len payload dest ctrl hlen
  have hpayload : (len ++ inner f payload dest ctrl).drop (lenBytesCount f + overhead f) = payload := by
    rw [inner, ← List.append_assoc]
    exact List.drop_left' (by simp [hlen, overhead])
  have hdest : f.filtEn = true → (if f.addrEn then some dest else none).getD 0x00#8 = dest := fun h => by simp [hfilt h]
  unfold judgeFrame
  dsimp only
  rw [haddr, hctrl, hpayload, if_neg fun h => h.2 (hcrc h.1)]
  by_cases hf : f.filtEn = true
  · rw [hdest hf]
  · simp [hf]

theorem decodeFrame_of_encodeFrame (f : FrameCfg) (payload raw : List Byte) (dest ctrl : Byte)
    (hfilt : f.filtEn = true → f.addrEn = true) (h : encodeFrame f payload dest ctrl = some raw) :
    decodeFrame f raw =
      if f.filtEn = true ∧ accepts f dest = false then .filtered
      else .accept payload (if f.addrEn then some dest else none) (if f.ctrlEn then some ctrl else none) := by
  obtain ⟨hfits, rfl⟩ := encodeFrame_eq_some f payload raw dest ctrl h
  rw [decodeFrame_append _ _ _ (by simp), if_pos rfl, decodeBody_append _ _ _ (lenField_length _ _),
    lenValue_lenField f _ hfits, if_neg (by simp [trailer_length]), List.take_left' (inner_length ..),
    List.drop_left' (inner_length ..)]
  exact judgeFrame_inner f _ payload _ dest ctrl (lenField_length _ _) hfilt (trailer_of_crc f _)

/-- The filter settings do not enter a frame (42_packet_engine.md R225). -/
theorem encodeFrame_congr (f g : FrameCfg) (payload : List Byte) (dest ctrl : Byte) (hmode : g.crcMode = f.crcMode)
    (haddr : g.addrEn = f.addrEn) (hctrl : g.ctrlEn = f.ctrlEn) (hwide : g.lenWide = f.lenWide)
    (hpre : g.preambleLen = f.preambleLen) (hsyncLen : g.syncLen = f.syncLen) (hsync : g.sync = f.sync)
    (hinit : g.crcInit = f.crcInit) : encodeFrame g payload dest ctrl = encodeFrame f payload dest ctrl := by
  obtain ⟨⟩ := f
  obtain ⟨⟩ := g
  subst hmode haddr hctrl hwide hpre hsyncLen hsync hinit
  rfl

/-- Settles O41: Encode field by field, and Decode as its inverse up to the filter. -/
theorem frameBytesAndTheirDecode : Obligations.FrameBytesAndTheirDecode := by
  refine ⟨?_, ?_⟩
  · rintro f payload region dest ctrl l rfl rfl
    rw [encodeFrame, header, lenField_eq, syncWord, bytesBE_eq, overhead, ← Nat.add_assoc]
    rfl
  · intro f g payload raw dest ctrl hmode haddr hctrl hwide hpre hsyncLen hsync hinit hfilt hraw
    rw [← encodeFrame_congr f g payload dest ctrl hmode haddr hctrl hwide hpre hsyncLen hsync hinit] at hraw
    rw [decodeFrame_of_encodeFrame g payload raw dest ctrl hfilt hraw, haddr, hctrl]

/-! ## Events -/

/-- An event's bit in the flag registers (44_event_routing.md R322). -/
def flagged (e : Event) (g : Regs) : Bool :=
  if eventSel e ≤ 8 then g.eventFlags0.getLsbD (eventSel e - 1) else g.eventFlags1.getLsbD (eventSel e - 9)

/-- The events in the order of their selectors (44_event_routing.md R321). -/
def eventsBySel : List Event :=
  [.rxDataReady, .txDone, .channelClear, .channelBusy, .maxRetries, .txFifoAlmostEmpty, .rxFifoAlmostFull, .crcError,
    .lengthMismatch, .rxOverrun, .rxFiltered, .txUnderflow, .syncDetected, .readyReached, .lockError]

theorem eventsBySel_eventSel (e : Event) : eventsBySel[eventSel e - 1]? = some e := by
  cases e <;> rfl

theorem eventSel_bounds (e : Event) : 1 ≤ eventSel e ∧ eventSel e ≤ 15 := by
  cases e <;> decide

theorem eventSel_inj {e e' : Event} : eventSel e = eventSel e' ↔ e = e' := by
  refine ⟨fun h => Option.some.inj ?_, congrArg eventSel⟩
  rw [← eventsBySel_eventSel e, ← eventsBySel_eventSel e', h]

theorem getLsbD_or_one_shiftLeft (v : Byte) (i j : Nat) (hi : i < 8) :
    (v ||| ((1 : Byte) <<< j)).getLsbD i = (decide (i = j) || v.getLsbD i) := by
  have hone : (1 : Byte).getLsbD (i - j) = decide (i - j = 0) := BitVec.getLsbD_one.trans (Bool.true_and _)
  rw [BitVec.getLsbD_or, BitVec.getLsbD_shiftLeft, hone]
  grind

/-- Signalling an event sets its own bit and no other event's. -/
theorem flagged_setEventFlag (e e' : Event) (g : Regs) :
    flagged e (setEventFlag (eventSel e') g) = (decide (e = e') || flagged e g) := by
  have hsel := eventSel_bounds e
  have hsel' := eventSel_bounds e'
  have hsame : decide (e = e') = decide (eventSel e = eventSel e') := by simp only [eventSel_inj]
  rw [setEventFlag_eq, hsame]
  unfold flagged
  split <;> split
  · rw [getLsbD_or_one_shiftLeft _ _ _ (by omega)]
    congr 2
    grind
  · grind
  · grind
  · rw [getLsbD_or_one_shiftLeft _ _ _ (by omega)]
    congr 2
    grind

/-! ## The running CRC -/

/-- The accumulator of either engine after the bytes `bs` of the CRC region (42_packet_engine.md R231, R238). -/
def runningCrc (f : FrameCfg) (bs : List Byte) : BitVec 32 :=
  bs.foldl (crcUpdate f.crcMode) (crcStart f)

theorem runningCrc_append_singleton (f : FrameCfg) (bs : List Byte) (b : Byte) :
    runningCrc f (bs ++ [b]) = crcUpdate f.crcMode (runningCrc f bs) b := by
  simp [runningCrc]

theorem runningCrc_of_crc (f : FrameCfg) (bs : List Byte) (hm : f.crcMode ≠ .none) : runningCrc f bs = crc f bs := by
  have hupdate : crcUpdate f.crcMode = crcStep f.crcMode := funext₂ fun _ _ => if_neg hm
  rw [runningCrc, crcStart, if_neg hm, hupdate]
  rfl

theorem trailer_eq_runningCrc (f : FrameCfg) (region : List Byte) :
    trailer f region = crcBytes f (runningCrc f region) := by
  by_cases hm : f.crcMode = .none
  · rw [trailer, if_pos hm, crcBytes, crcCount, hm]
    rfl
  · rw [trailer_of_crc f region hm, runningCrc_of_crc f region hm]

/-! ## Runs of engine and environment steps -/

theorem run_succ (n : Nat) (s t : State) (h : step s = .next t) :
    Host.Core.run Sys2Proof.core (n + 1) s = Host.Core.run Sys2Proof.core n t := by
  have hstep : Sys2Proof.core.step s = .next t := h
  simp only [Host.Core.run, hstep]

theorem run_add (m n : Nat) (s t : State) (h : Host.Core.run Sys2Proof.core m s = .next t) :
    Host.Core.run Sys2Proof.core (m + n) s = Host.Core.run Sys2Proof.core n t := by
  induction m generalizing s with
  | zero =>
    cases h
    rw [Nat.zero_add]
  | succ m ih =>
    rw [Nat.succ_add]
    cases hstep : step s with
    | next s' =>
      rw [run_succ m s s' hstep] at h
      rw [run_succ (m + n) s s' hstep, ih s' h]
    | fault r =>
      have hcore : Sys2Proof.core.step s = .fault r := hstep
      simp [Host.Core.run, hcore] at h
    | refused r =>
      have hcore : Sys2Proof.core.step s = .refused r := hstep
      simp [Host.Core.run, hcore] at h

theorem step_of_enabled (s : State) (e : Input) (rest : List Input) (hf : s.faults = []) (hi : s.input = e :: rest)
    (he : ∀ bytes, e ≠ .transaction bytes) (hen : inputEnabled e s = true) :
    step s = .next (inputEffect e { s with input := rest }) := by
  rw [step_of_environment_input s e rest hf hi he, envStep, inputEnabled_setInput, if_pos hen]

theorem step_txEmit (s : State) (rest : List Input) (hf : s.faults = []) (hr : s.radio = .tx)
    (hi : s.input = .txEmit :: rest) : step s = .next (txEmit { s with input := rest }) :=
  step_of_enabled s .txEmit rest hf hi nofun (decide_eq_true hr)

/-! ## The TX serializer, field by field (42_packet_engine.md R231) -/

theorem txH0_le (s : State) : txH0 s ≤ txP0 s ∧ txP0 s ≤ txC0 s ∧ txC0 s ≤ txN s := by
  unfold txN txC0 txP0
  omega

theorem txEmit_of_start (s : State) (h : s.tx.pos < txH0 s) :
    txEmit s = txAdvance ((preamble (frameCfgOf s) ++ syncWord (frameCfgOf s)).getD s.tx.pos 0x00#8) s := if_pos h

theorem txEmit_of_header (s : State) (h : txH0 s ≤ s.tx.pos) (h' : s.tx.pos < txP0 s) :
    txEmit s =
      txAdvance ((txHdr s).getD (s.tx.pos - txH0 s) 0x00#8)
        (txCrc ((txHdr s).getD (s.tx.pos - txH0 s) 0x00#8) s) := by
  rw [txEmit, if_neg (by omega), if_pos h']

theorem txEmit_of_underflow (s : State) (h : txP0 s ≤ s.tx.pos) (h' : s.tx.pos < txC0 s) (hfifo : s.txFifo = []) :
    txEmit s = txUnderflow s := by
  have hle := txH0_le s
  rw [txEmit, if_neg (by omega), if_neg (by omega), if_pos h', txPop, hfifo]

theorem txEmit_of_payload (s : State) (b : Byte) (more : List Byte) (h : txP0 s ≤ s.tx.pos) (h' : s.tx.pos < txC0 s)
    (hfifo : s.txFifo = b :: more) :
    txEmit s = txAdvance b (txCrc b (txThreshold { s with txFifo := more })) := by
  have hle := txH0_le s
  rw [txEmit, if_neg (by omega), if_neg (by omega), if_pos h', txPop, hfifo]

theorem txEmit_of_crc (s : State) (h : txC0 s ≤ s.tx.pos) :
    txEmit s = txAdvance ((crcBytes (frameCfgOf s) s.tx.crcAcc).getD (s.tx.pos - txC0 s) 0x00#8) s := by
  have hle := txH0_le s
  rw [txEmit, if_neg (by omega), if_neg (by omega), if_neg (by omega)]

/-- Settles O37: the pop finds the FIFO empty. -/
theorem serializerUnderflow : Obligations.SerializerUnderflow := by
  intro s rest hf hr hp0 hc0 hfifo hi
  rw [step_txEmit s rest hf hr hi, txEmit_of_underflow { s with input := rest } hp0 hc0 hfifo]
  rfl

@[simp] theorem txN_signal (e : Event) (s : State) : txN (signal e s) = txN s := by
  simp [txN, txC0, txP0, txH0]

/-- A byte that is not the frame's last enters the CRC and is emitted (42_packet_engine.md R231). -/
theorem txAdvance_txCrc_of_ne (b : Byte) (s : State) (h : s.tx.pos + 1 ≠ txN s) :
    txAdvance b (txCrc b s) =
      { s with
        airOut := s.airOut ++ [b]
        tx := { pos := s.tx.pos + 1, crcAcc := crcUpdate (frameCfgOf s).crcMode s.tx.crcAcc b } } :=
  if_neg h

/-- Settles O38: the pop, the threshold, the CRC and the emission, in this order. -/
theorem serializerPayloadByte : Obligations.SerializerPayloadByte := by
  rintro s rest b more hf hr hp0 hc0 hlast hfifo hi u hu
  have hpop : txThreshold { s with txFifo := more, input := rest } =
      if more.length = s.regs.txFifoThr.toNat then signal .txFifoAlmostEmpty u else u := by
    rw [hu]
    rfl
  rw [step_txEmit s rest hf hr hi, txEmit_of_payload { s with input := rest } b more hp0 hc0 hfifo, hpop]
  split
  · rw [txAdvance_txCrc_of_ne _ _ (by rw [txN_signal, hu]; exact hlast), frameCfgOf_signal, hu]
    rfl
  · rw [txAdvance_txCrc_of_ne _ _ (by rw [hu]; exact hlast), hu]
    rfl

/-! ## A whole transmission -/

/-- The payload of the transmission that starts in `s`. -/
def txPayload (s : State) : List Byte :=
  s.txFifo.take (pktLen s.regs)

/-- The CRC region of the transmission that starts in `s`: length field to payload (42_packet_engine.md R225). -/
def txRegion (s : State) : List Byte :=
  txHdr s ++ txPayload s

/-- The frame of the transmission that starts in `s`. -/
def txFrame (s : State) : List Byte :=
  preamble (frameCfgOf s) ++ syncWord (frameCfgOf s) ++ txRegion s ++ trailer (frameCfgOf s) (txRegion s)

@[simp] theorem header_length (f : FrameCfg) (p : Nat) (dest ctrl : Byte) :
    (header f p dest ctrl).length = lenBytesCount f + overhead f := by
  simp [header, overhead]

theorem txPayload_length (s : State) (h : pktLen s.regs ≤ s.txFifo.length) : (txPayload s).length = pktLen s.regs :=
  List.length_take_of_le h

theorem txRegion_length (s : State) (h : pktLen s.regs ≤ s.txFifo.length) :
    txH0 s + (txRegion s).length = txC0 s := by
  simp only [txRegion, txHdr, List.length_append, header_length, txPayload_length s h, txC0, txP0]
  omega

theorem txFrame_length (s : State) (h : pktLen s.regs ≤ s.txFifo.length) : (txFrame s).length = txN s := by
  have hregion := txRegion_length s h
  simp only [txFrame, List.length_append, trailer_length, preamble_length, syncWord_length, txN]
  unfold txH0 at hregion
  omega

theorem encodeFrame_txPayload (s : State) (hfits : LengthFits s) (h : pktLen s.regs ≤ s.txFifo.length) :
    encodeFrame (frameCfgOf s) (txPayload s) s.regs.txDestAddr s.regs.txCtrl = some (txFrame s) := by
  unfold encodeFrame
  rw [txPayload_length s h, if_pos hfits]
  rfl

/-- A transmission that began in `s` and has emitted `sent`, with the CRC over `summed` and the TX FIFO at `fifo`. -/
structure TxAt (s : State) (sent summed fifo : List Byte) (t : State) : Prop where
  radio : t.radio = .tx
  frameCfg : frameCfgOf t = frameCfgOf s
  pktLen : pktLen t.regs = pktLen s.regs
  dest : t.regs.txDestAddr = s.regs.txDestAddr
  ctrl : t.regs.txCtrl = s.regs.txCtrl
  pos : t.tx.pos = sent.length
  airOut : t.airOut = s.airOut ++ sent
  crcAcc : t.tx.crcAcc = runningCrc (frameCfgOf s) summed
  txFifo : t.txFifo = fifo
  err : t.err = s.err
  rxFifo : t.rxFifo = s.rxFifo
  csma : t.csma = s.csma
  faults : t.faults = s.faults
  input : t.input = s.input

section

variable {s t : State} {sent summed fifo : List Byte}

theorem TxAt.setInput (h : TxAt s sent summed fifo t) (i : List Input) :
    TxAt { s with input := i } sent summed fifo { t with input := i } :=
  { h with input := rfl }

theorem TxAt.signal (h : TxAt s sent summed fifo t) (e : Event) : TxAt s sent summed fifo (signal e t) :=
  { h with
    frameCfg := by rw [frameCfgOf_signal, h.frameCfg]
    pktLen := by rw [signal_regs, setEventFlag_pktLen, h.pktLen]
    dest := by rw [signal_regs, setEventFlag_eq, h.dest]
    ctrl := by rw [signal_regs, setEventFlag_eq, h.ctrl] }

theorem TxAt.pop {b : Byte} (h : TxAt s sent summed (b :: fifo) t) :
    TxAt s sent summed fifo (txThreshold { t with txFifo := fifo }) := by
  have hpop : TxAt s sent summed fifo { t with txFifo := fifo } := { h with txFifo := rfl }
  unfold txThreshold
  split
  · exact hpop.signal _
  · exact hpop

theorem TxAt.txCrc (h : TxAt s sent summed fifo t) (b : Byte) : TxAt s sent (summed ++ [b]) fifo (txCrc b t) :=
  { h with
    crcAcc := by
      rw [runningCrc_append_singleton, ← h.crcAcc, ← h.frameCfg]
      rfl }

theorem TxAt.emit (h : TxAt s sent summed fifo t) (b : Byte) :
    TxAt s (sent ++ [b]) summed fifo
      { t with airOut := t.airOut ++ [b], tx := { t.tx with pos := t.tx.pos + 1 } } :=
  { h with
    pos := by simp [h.pos]
    airOut := by simp [h.airOut] }

theorem TxAt.txN_eq (h : TxAt s sent summed fifo t) : txN t = txN s := by
  simp only [txN, txC0, txP0, txH0, h.frameCfg, h.pktLen]

end

/-- The transmission from `s` after `k` bytes of its frame. -/
def TxProgress (s : State) (k : Nat) (t : State) : Prop :=
  TxAt s ((txFrame s).take k) ((txRegion s).take (k - txH0 s))
    ((txPayload s).drop (k - txP0 s) ++ s.txFifo.drop (pktLen s.regs)) t

theorem txProgress_zero (s : State) (hr : s.radio = .tx)
    (htx : s.tx = { pos := 0, crcAcc := crcStart (frameCfgOf s) }) : TxProgress s 0 s where
  radio := hr
  frameCfg := rfl
  pktLen := rfl
  dest := rfl
  ctrl := rfl
  pos := by simp [htx]
  airOut := by simp
  crcAcc := by
    rw [htx, Nat.zero_sub]
    rfl
  txFifo := by simp [txPayload]
  err := rfl
  rxFifo := rfl
  csma := rfl
  faults := rfl
  input := rfl

/-! ### The bytes of the frame by their position (42_packet_engine.md R230) -/

theorem start_length (s : State) : (preamble (frameCfgOf s) ++ syncWord (frameCfgOf s)).length = txH0 s := by
  simp [txH0]

theorem txHdr_length (s : State) : txH0 s + (txHdr s).length = txP0 s := by
  rw [txHdr, header_length, txP0, ← Nat.add_assoc]

theorem txFrame_getD_start (s : State) (k : Nat) (h : k < txH0 s) :
    (txFrame s).getD k 0x00#8 = (preamble (frameCfgOf s) ++ syncWord (frameCfgOf s)).getD k 0x00#8 := by
  rw [txFrame, List.append_assoc, List.getD_append _ _ _ _ (by rwa [start_length])]

theorem txFrame_getD_region (s : State) (k : Nat) (hlen : pktLen s.regs ≤ s.txFifo.length) (h : txH0 s ≤ k)
    (h' : k < txC0 s) : (txFrame s).getD k 0x00#8 = (txRegion s).getD (k - txH0 s) 0x00#8 := by
  have hregion := txRegion_length s hlen
  rw [txFrame, List.append_assoc, List.getD_append_right _ _ _ _ (by rwa [start_length]), start_length,
    List.getD_append _ _ _ _ (by omega)]

theorem txFrame_getD_trailer (s : State) (k : Nat) (hlen : pktLen s.regs ≤ s.txFifo.length) (h : txC0 s ≤ k) :
    (txFrame s).getD k 0x00#8 = (trailer (frameCfgOf s) (txRegion s)).getD (k - txC0 s) 0x00#8 := by
  have hlength : (preamble (frameCfgOf s) ++ syncWord (frameCfgOf s) ++ txRegion s).length = txC0 s := by
    rw [List.length_append, start_length, txRegion_length s hlen]
  rw [txFrame, List.getD_append_right _ _ _ _ (by rwa [hlength]), hlength]

theorem take_succ_eq_append_getD (bs : List Byte) (k : Nat) (h : k < bs.length) :
    bs.take (k + 1) = bs.take k ++ [bs.getD k 0x00#8] := by
  rw [List.take_add_one, List.getElem?_eq_getElem h, List.getD_eq_getElem _ _ h]
  rfl

theorem drop_eq_getD_cons (bs : List Byte) (k : Nat) (h : k < bs.length) :
    bs.drop k = bs.getD k 0x00#8 :: bs.drop (k + 1) := by
  rw [List.drop_eq_getElem_cons h, List.getD_eq_getElem _ _ h]

/-- Inside the CRC region the sum takes in the frame's next byte. -/
theorem take_txRegion_succ (s : State) (k : Nat) (hlen : pktLen s.regs ≤ s.txFifo.length) (h : txH0 s ≤ k)
    (h' : k < txC0 s) :
    (txRegion s).take (k + 1 - txH0 s) = (txRegion s).take (k - txH0 s) ++ [(txFrame s).getD k 0x00#8] := by
  have hregion := txRegion_length s hlen
  rw [txFrame_getD_region s k hlen h h', Nat.sub_add_comm h, take_succ_eq_append_getD _ _ (by omega)]

/-! ### One emission -/

/-- One emission at position `k` puts byte `k` of the frame on the air, from a state ready for the next position. -/
def EmitsFrameByte (s : State) (k : Nat) (t : State) : Prop :=
  ∃ u, txEmit t = txAdvance ((txFrame s).getD k 0x00#8) u ∧
    TxAt s ((txFrame s).take k) ((txRegion s).take (k + 1 - txH0 s))
      ((txPayload s).drop (k + 1 - txP0 s) ++ s.txFifo.drop (pktLen s.regs)) u

section

variable {s t : State} {k : Nat} (hlen : pktLen s.regs ≤ s.txFifo.length) (h : TxProgress s k t) (hk : k < txN s)

include hlen h hk in
theorem TxProgress.pos_eq : t.tx.pos = k := by
  rw [TxAt.pos h, List.length_take_of_le]
  rw [txFrame_length s hlen]
  omega

include h in
theorem TxProgress.bounds : txH0 t = txH0 s ∧ txP0 t = txP0 s ∧ txC0 t = txC0 s := by
  simp only [txC0, txP0, txH0, TxAt.frameCfg h, TxAt.pktLen h, and_self]

include hlen h hk in
theorem emitsFrameByte_of_start (hstart : k < txH0 s) : EmitsFrameByte s k t := by
  have hle := txH0_le s
  obtain ⟨hH0, -, -⟩ := h.bounds
  have hpos := h.pos_eq hlen hk
  refine ⟨t, ?_, ?_⟩
  · rw [txEmit_of_start t (by omega), txFrame_getD_start s k hstart, TxAt.frameCfg h, hpos]
  · have hat : TxAt _ _ _ _ _ := h
    rw [show k - txH0 s = 0 by omega, show k - txP0 s = 0 by omega] at hat
    rwa [show k + 1 - txH0 s = 0 by omega, show k + 1 - txP0 s = 0 by omega]

include hlen h hk in
theorem emitsFrameByte_of_header (hstart : txH0 s ≤ k) (hend : k < txP0 s) : EmitsFrameByte s k t := by
  have hle := txH0_le s
  obtain ⟨hH0, hP0, -⟩ := h.bounds
  have hpos := h.pos_eq hlen hk
  have hHdr : txHdr t = txHdr s := by simp only [txHdr, TxAt.frameCfg h, TxAt.pktLen h, TxAt.dest h, TxAt.ctrl h]
  have hbyte : (txFrame s).getD k 0x00#8 = (txHdr s).getD (k - txH0 s) 0x00#8 := by
    have hlength := txHdr_length s
    rw [txFrame_getD_region s k hlen hstart (by omega), txRegion, List.getD_append _ _ _ _ (by omega)]
  refine ⟨txCrc ((txFrame s).getD k 0x00#8) t, ?_, ?_⟩
  · rw [txEmit_of_header t (by omega) (by omega), hHdr, hpos, hH0, hbyte]
  · have hat := TxAt.txCrc h ((txFrame s).getD k 0x00#8)
    rw [← take_txRegion_succ s k hlen hstart (by omega), show k - txP0 s = 0 by omega] at hat
    rwa [show k + 1 - txP0 s = 0 by omega]

include hlen h hk in
theorem emitsFrameByte_of_payload (hstart : txP0 s ≤ k) (hend : k < txC0 s) : EmitsFrameByte s k t := by
  have hle := txH0_le s
  obtain ⟨-, hP0, hC0⟩ := h.bounds
  have hpos := h.pos_eq hlen hk
  have hbyte : (txFrame s).getD k 0x00#8 = (txPayload s).getD (k - txP0 s) 0x00#8 := by
    have hlength := txHdr_length s
    rw [txFrame_getD_region s k hlen (by omega) hend, txRegion, List.getD_append_right _ _ _ _ (by omega)]
    congr 1
    omega
  have hfifo : (txPayload s).drop (k - txP0 s) =
      (txFrame s).getD k 0x00#8 :: (txPayload s).drop (k + 1 - txP0 s) := by
    have hpayload := txPayload_length s hlen
    rw [hbyte, Nat.sub_add_comm hstart, drop_eq_getD_cons _ _ (by unfold txC0 at hend; omega)]
  have hat : TxAt _ _ _ _ _ := h
  rw [hfifo, List.cons_append] at hat
  refine ⟨_, txEmit_of_payload t _ _ (by omega) (by omega) hat.txFifo, ?_⟩
  rw [take_txRegion_succ s k hlen (by omega) hend]
  exact hat.pop.txCrc _

include hlen h hk in
theorem emitsFrameByte_of_trailer (hstart : txC0 s ≤ k) : EmitsFrameByte s k t := by
  have hle := txH0_le s
  obtain ⟨-, -, hC0⟩ := h.bounds
  have hpos := h.pos_eq hlen hk
  have hregion := txRegion_length s hlen
  have hpayload : (txPayload s).length ≤ k - txP0 s := by
    rw [txPayload_length s hlen]
    unfold txC0 at hstart
    omega
  have hsummed : (txRegion s).take (k - txH0 s) = txRegion s := List.take_of_length_le (by omega)
  have hsummed' : (txRegion s).take (k + 1 - txH0 s) = txRegion s := List.take_of_length_le (by omega)
  have hat : TxAt _ _ _ _ _ := h
  rw [hsummed, List.drop_eq_nil_of_le hpayload] at hat
  refine ⟨t, ?_, ?_⟩
  · rw [txEmit_of_crc t (by omega), hat.crcAcc, hat.frameCfg, hpos, hC0, ← trailer_eq_runningCrc,
      txFrame_getD_trailer s k hlen hstart]
  · rwa [hsummed', List.drop_eq_nil_of_le (by omega)]

include hlen h hk in
theorem emitsFrameByte_of_progress : EmitsFrameByte s k t := by
  rcases Nat.lt_or_ge k (txH0 s) with hH0 | hH0
  · exact emitsFrameByte_of_start hlen h hk hH0
  rcases Nat.lt_or_ge k (txP0 s) with hP0 | hP0
  · exact emitsFrameByte_of_header hlen h hk hH0 hP0
  rcases Nat.lt_or_ge k (txC0 s) with hC0 | hC0
  · exact emitsFrameByte_of_payload hlen h hk hP0 hC0
  · exact emitsFrameByte_of_trailer hlen h hk hC0

include hlen h hk in
/-- One emission goes on to the next position; the last one ends the frame (42_packet_engine.md R231, R233). -/
theorem txEmit_of_progress :
    ∃ w, TxProgress s (k + 1) w ∧ (k + 1 = txN s → txEmit t = txDone w) ∧ (k + 1 ≠ txN s → txEmit t = w) := by
  obtain ⟨u, hemit, hat⟩ := emitsFrameByte_of_progress hlen h hk
  have hlength := txFrame_length s hlen
  have hpos : u.tx.pos = k := by
    rw [hat.pos, List.length_take_of_le (by omega)]
  refine ⟨{ u with
      airOut := u.airOut ++ [(txFrame s).getD k 0x00#8]
      tx := { u.tx with pos := u.tx.pos + 1 } }, ?_, ?_⟩
  · unfold TxProgress
    rw [take_succ_eq_append_getD (txFrame s) k (by omega)]
    exact hat.emit _
  · rw [hemit, ← hat.txN_eq, ← hpos]
    exact ⟨fun hlast => if_pos hlast, fun hmore => if_neg hmore⟩

end

/-! ### The run -/

/-- From position `k` the rest of the frame is emitted, and the frame ends. -/
theorem run_txEmit (n : Nat) (k : Nat) (s t : State) (rest : List Input) (hlen : pktLen s.regs ≤ s.txFifo.length)
    (hf : s.faults = []) (h : TxProgress s k t) (hn : k + (n + 1) = txN s)
    (hi : s.input = List.replicate (n + 1) .txEmit ++ rest) :
    ∃ w, TxProgress { s with input := rest } (txN s) w ∧
      Host.Core.run Sys2Proof.core (n + 1) t = .next (txDone w) := by
  have hfaults : t.faults = [] := (TxAt.faults h).trans hf
  have hinput : t.input = .txEmit :: (List.replicate n .txEmit ++ rest) := (TxAt.input h).trans hi
  have hstep := step_txEmit t _ hfaults (TxAt.radio h) hinput
  have hset : TxProgress { s with input := List.replicate n .txEmit ++ rest } k
      { t with input := List.replicate n .txEmit ++ rest } := TxAt.setInput h _
  obtain ⟨w, hw, hlast, hmore⟩ :=
    txEmit_of_progress (s := { s with input := List.replicate n .txEmit ++ rest }) hlen hset (by show k < txN s; omega)
  rw [run_succ _ _ _ hstep]
  cases n with
  | zero =>
    rw [hlast hn]
    exact ⟨w, hn ▸ hw, rfl⟩
  | succ n =>
    rw [hmore (by show ¬ k + 1 = txN s; omega)]
    exact run_txEmit n (k + 1) { s with input := List.replicate (n + 1) .txEmit ++ rest } w rest hlen hf hw
      (by show _ = txN s; omega) rfl

/-- A complete transmission is signalled (42_packet_engine.md R233). -/
theorem flagged_txDone (s : State) (e : Event) (h : e = .txDone ∨ e = .readyReached) :
    flagged e (txDone s).regs = true := by
  rw [txDone, signal_regs, signal_regs, flagged_setEventFlag, flagged_setEventFlag]
  rcases h with rfl | rfl <;> rfl

/-! ### The configuration of a frame -/

theorem lowBits_toNat (v : Byte) : (v.extractLsb' 0 3).toNat = v.toNat % 8 := by
  simp

theorem crcBytesCount_crcModeOf (v : Byte) (h : v.toNat % 8 ≤ 5) :
    crcBytesCount (crcModeOf v) = [0, 1, 2, 2, 3, 4].getD (v.toNat % 8) 0 := by
  unfold crcModeOf
  rw [lowBits_toNat]
  generalize v.toNat % 8 = code at h
  interval_cases code <;> rfl

/-- Settles O36: every emission puts the frame's next byte on the air, so the run puts the whole frame there. -/
theorem serializerEmitsTheEncodedFrame : Obligations.SerializerEmitsTheEncodedFrame := by
  refine ⟨fun s hmode => ⟨?_, rfl, crcBytesCount_crcModeOf _ hmode, ?_, ?_, rfl⟩, ?_⟩
  · rw [← lowBits_toNat s.regs.pktCfg0, ← lowBits_toNat s.regs.syncLen]
    rfl
  · have hsync : (frameCfgOf s).syncLen = s.regs.syncLen.toNat % 8 := lowBits_toNat _
    rw [txP0, txH0, overhead, ← Nat.add_assoc, hsync]
    rfl
  · rw [txC0, pktLen, pair_toNat, Nat.add_assoc]
  · intro s rest hf hr htx hfits hlen hi
    have hpos : 0 < txN s := by
      have hle := txH0_le s
      have hlw := lenBytesCount_pos (frameCfgOf s)
      unfold txP0 at hle
      omega
    obtain ⟨n, hn⟩ : ∃ n, txN s = n + 1 := ⟨txN s - 1, by omega⟩
    obtain ⟨w, hw, hrun⟩ :=
      run_txEmit n 0 s s rest hlen hf (txProgress_zero s hr htx) (by omega) (hn ▸ hi)
    have hat : TxAt _ _ _ _ w := hw
    have hlength := txFrame_length s hlen
    have hair : w.airOut = s.airOut ++ txFrame s :=
      hat.airOut.trans (congrArg (s.airOut ++ ·) (List.take_of_length_le hlength.le))
    have hfifo : w.txFifo = s.txFifo.drop (pktLen s.regs) := by
      have hnone : (txPayload s).drop (txN s - txP0 s) = [] :=
        List.drop_eq_nil_of_le (by rw [txPayload_length s hlen, txN, txC0]; omega)
      exact hat.txFifo.trans (congrArg (· ++ _) hnone)
    exact ⟨txFrame s, txDone w, encodeFrame_txPayload s hfits hlen, hlength, hn ▸ hrun, hair, hfifo, rfl,
      flagged_txDone w .txDone (.inl rfl), flagged_txDone w .readyReached (.inr rfl), hat.err, hat.rxFifo, hat.csma,
      hat.input⟩

/-! ## The RX deserializer, step by step -/

theorem step_syncDetected (s : State) (rest : List Input) (hf : s.faults = []) (hr : s.radio = .rx)
    (hp : s.rx.phase = .hunt) (hi : s.input = .syncDetected :: rest) :
    step s = .next (syncDetected { s with input := rest }) :=
  step_of_enabled s .syncDetected rest hf hi nofun (by simp [inputEnabled, hr, hp])

theorem step_rxByte (s : State) (b : Byte) (rest : List Input) (hf : s.faults = []) (hr : s.radio = .rx)
    (hp : s.rx.phase ≠ .hunt) (hi : s.input = .rxByte b :: rest) :
    step s = .next (rxByte b { s with input := rest }) :=
  step_of_enabled s (.rxByte b) rest hf hi nofun ((rxInFrame_iff s).2 ⟨hr, hp⟩)

theorem step_carrierLost (s : State) (rest : List Input) (hf : s.faults = []) (hr : s.radio = .rx)
    (hp : s.rx.phase ≠ .hunt) (hi : s.input = .carrierLost :: rest) :
    step s = .next (lengthMismatch { s with input := rest }) :=
  step_of_enabled s .carrierLost rest hf hi nofun ((rxInFrame_iff s).2 ⟨hr, hp⟩)

/-! ### `Advance` skips the fields that are absent (42_packet_engine.md R238) -/

theorem advance_len (s : State) :
    advance .len s = if (frameCfgOf s).addrEn then setRxPhase .addr s else advance .addr s := by
  unfold advance
  cases h : (frameCfgOf s).addrEn <;> simp [phasesAfter, phasePresent, h]

theorem advance_addr (s : State) :
    advance .addr s = if (frameCfgOf s).ctrlEn then setRxPhase .ctrl s else advance .ctrl s := by
  unfold advance
  cases h : (frameCfgOf s).ctrlEn <;> simp [phasesAfter, phasePresent, h]

theorem advance_ctrl (s : State) :
    advance .ctrl s = if 0 < s.rx.payloadLeft.toNat then setRxPhase .payload s else advance .payload s := by
  unfold advance
  by_cases h : 0 < s.rx.payloadLeft.toNat <;> simp [phasesAfter, phasePresent, h]

theorem advance_payload (s : State) :
    advance .payload s = if 0 < crcCount (frameCfgOf s) then setRxPhase .crc s else frameEnd s := by
  unfold advance
  by_cases h : 0 < crcCount (frameCfgOf s) <;> simp [phasesAfter, phasePresent, h]

/-! ### A payload byte -/

theorem rxByte_of_payload (b : Byte) (s : State) (hp : s.rx.phase = .payload) :
    rxByte b s = rxPayload b (rxCrcUpdate b s) := by
  unfold rxByte
  rw [hp]

/-- A payload byte that finds room (42_packet_engine.md R242): what it leaves before `Advance`. -/
def payloadTaken (b : Byte) (s : State) : State :=
  { rxPush b s with
    rx :=
      { s.rx with
        payloadLeft := s.rx.payloadLeft - 1
        crcAcc := crcUpdate (frameCfgOf s).crcMode s.rx.crcAcc b } }

theorem rxPush_rxCrcUpdate (b : Byte) (s : State) :
    rxPush b (rxCrcUpdate b s) = { rxPush b s with rx := (rxCrcUpdate b s).rx } := by
  by_cases h : s.rxFifo.length + 1 = s.regs.rxFifoThr.toNat
  · rw [rxPush_cases b s, if_pos h]
    exact (rxPush_cases b _).trans (if_pos h)
  · rw [rxPush_cases b s, if_neg h]
    exact (rxPush_cases b _).trans (if_neg h)

theorem rxPayload_of_room (b : Byte) (s : State) (hroom : s.rxFifo.length ≠ s.cfg.fifoCap) :
    rxPayload b (rxCrcUpdate b s) =
      if s.rx.payloadLeft = 1 then advance .payload (payloadTaken b s) else payloadTaken b s := by
  have hleft : (payloadTaken b s).rx.payloadLeft = 0 ↔ s.rx.payloadLeft = 1 := sub_eq_zero
  have hpayload : rxPayload b (rxCrcUpdate b s) =
      if (payloadTaken b s).rx.payloadLeft = 0 then advance .payload (payloadTaken b s) else payloadTaken b s := by
    unfold rxPayload
    dsimp only
    rw [rxPush_rxCrcUpdate]
    exact if_neg hroom
  rw [hpayload]
  simp only [hleft]

theorem rxPayload_of_full (b : Byte) (s : State) (hfull : s.rxFifo.length = s.cfg.fifoCap) :
    rxPayload b s = overrun s := if_pos hfull

/-- Settles O46: SyncDetected, then a payload byte with room and one without. -/
theorem receiverSyncAndPayloadBytes : Obligations.ReceiverSyncAndPayloadBytes := by
  refine ⟨fun s rest hf hr hp hi => step_syncDetected s rest hf hr hp hi, ?_, ?_⟩
  · intro s u v b rest hf hr hp hroom hi hu hv
    have htaken : payloadTaken b { s with input := rest } = v := by
      rw [hv, hu, payloadTaken, rxPush_cases]
      rfl
    have hstep : step s = .next (if s.rx.payloadLeft = 1 then advance .payload v else v) := by
      rw [step_rxByte s b rest hf hr (by rw [hp]; decide) hi, rxByte_of_payload b { s with input := rest } hp,
        rxPayload_of_room b { s with input := rest } hroom, htaken]
    have hcfg : frameCfgOf v = frameCfgOf s := by
      rw [hv, hu]
      split
      · exact frameCfgOf_signal .rxFifoAlmostFull _
      · rfl
    have hcrc : 0 < crcCount (frameCfgOf v) ↔ (frameCfgOf s).crcMode ≠ .none := by rw [hcfg, crcCount_pos_iff]
    rw [hstep, advance_payload]
    exact ⟨fun h => by rw [if_neg h], fun h hm => by rw [if_pos h, if_pos (hcrc.2 hm), setRxPhase],
      fun h hm => by rw [if_pos h, if_neg fun h' => hcrc.1 h' hm]⟩
  · intro s b rest hf hr hp hfull hi
    refine ⟨_, step_rxByte s b rest hf hr (by rw [hp]; decide) hi, ?_⟩
    rw [rxByte_of_payload b { s with input := rest } hp,
      rxPayload_of_full b (rxCrcUpdate b { s with input := rest }) hfull]
    simp [overrun, failFrame_eq, setEventFlag_eq, eventSel, ErrFlags.raise, rxCrcUpdate, hr]

/-! ## The fields of a body -/

/-- A body cut into its fields: `region` runs from the length field to the payload (42_packet_engine.md R225). -/
structure Received where
  len : List Byte
  region : List Byte
  addr : Option Byte
  ctrl : Option Byte
  payload : List Byte
  crc : List Byte

/-- Where Decode finds the fields of a region (42_packet_engine.md R227). -/
def cutRegion (f : FrameCfg) (len region crc : List Byte) : Received where
  len := len
  region := region
  addr := if f.addrEn then region[lenBytesCount f]? else none
  ctrl := if f.ctrlEn then region[lenBytesCount f + f.addrEn.toNat]? else none
  payload := region.drop (lenBytesCount f + overhead f)
  crc := crc

/-- The length that a body's length field says, as far as it has come. -/
def saidLength (f : FrameCfg) (bs : List Byte) : Nat :=
  lenValue (bs.take (lenBytesCount f))

/-- The fields of a body, also of one that has not come to its end. -/
def received (f : FrameCfg) (bs : List Byte) : Received :=
  cutRegion f (bs.take (lenBytesCount f)) (bs.take (lenBytesCount f + saidLength f bs))
    (bs.drop (lenBytesCount f + saidLength f bs))

section

variable (f : FrameCfg) (len region crc : List Byte) (b : Byte)

theorem cutRegion_addr_snoc (h : f.addrEn = true) (hlen : region.length = lenBytesCount f) :
    (cutRegion f len (region ++ [b]) crc).addr = some b := by
  simp [cutRegion, h, ← hlen]

theorem cutRegion_addr_snoc_of_ne (h : f.addrEn = true → region.length ≠ lenBytesCount f) :
    (cutRegion f len (region ++ [b]) crc).addr = (cutRegion f len region crc).addr := by
  cases ha : f.addrEn with
  | false => simp [cutRegion, ha]
  | true =>
    have hne := h ha
    simp only [cutRegion, ha, if_true]
    grind

theorem cutRegion_ctrl_snoc (h : f.ctrlEn = true) (hlen : region.length = lenBytesCount f + f.addrEn.toNat) :
    (cutRegion f len (region ++ [b]) crc).ctrl = some b := by
  simp [cutRegion, h, ← hlen]

theorem cutRegion_ctrl_snoc_of_ne (h : f.ctrlEn = true → region.length ≠ lenBytesCount f + f.addrEn.toNat) :
    (cutRegion f len (region ++ [b]) crc).ctrl = (cutRegion f len region crc).ctrl := by
  cases hc : f.ctrlEn with
  | false => simp [cutRegion, hc]
  | true =>
    have hne := h hc
    simp only [cutRegion, hc, if_true]
    grind

theorem cutRegion_payload_snoc (h : lenBytesCount f + overhead f ≤ region.length) :
    (cutRegion f len (region ++ [b]) crc).payload = (cutRegion f len region crc).payload ++ [b] :=
  List.drop_append_of_le_length h

theorem cutRegion_payload_nil (h : region.length ≤ lenBytesCount f + overhead f) :
    (cutRegion f len region crc).payload = [] :=
  List.drop_eq_nil_of_le h

end

section

variable (f : FrameCfg) (bs more : List Byte) (b : Byte)

theorem saidLength_append (h : lenBytesCount f ≤ bs.length) : saidLength f (bs ++ more) = saidLength f bs := by
  rw [saidLength, List.take_append_of_le_length h, saidLength]

/-- In the CRC region everything received belongs to it. -/
theorem received_of_le (h : bs.length ≤ lenBytesCount f + saidLength f bs) :
    received f bs = cutRegion f (bs.take (lenBytesCount f)) bs [] := by
  rw [received, List.take_of_length_le h, List.drop_eq_nil_of_le h]

theorem received_snoc_of_len (h : bs.length < lenBytesCount f) :
    received f bs = cutRegion f bs bs [] ∧ received f (bs ++ [b]) = cutRegion f (bs ++ [b]) (bs ++ [b]) [] := by
  have hsnoc : (bs ++ [b]).length ≤ lenBytesCount f := by simp; omega
  rw [received_of_le f bs (by omega), received_of_le f (bs ++ [b]) (by omega), List.take_of_length_le h.le,
    List.take_of_length_le hsnoc]
  exact ⟨rfl, rfl⟩

theorem received_snoc_of_region (hlw : lenBytesCount f ≤ bs.length)
    (h : bs.length < lenBytesCount f + saidLength f bs) :
    received f bs = cutRegion f (bs.take (lenBytesCount f)) bs [] ∧
      received f (bs ++ [b]) = cutRegion f (bs.take (lenBytesCount f)) (bs ++ [b]) [] := by
  have hsaid := saidLength_append f bs [b] hlw
  rw [received_of_le f bs h.le, received_of_le f (bs ++ [b]) (by rw [hsaid]; simp; omega),
    List.take_append_of_le_length hlw]
  exact ⟨rfl, rfl⟩

theorem received_snoc_of_crc (hlw : lenBytesCount f ≤ bs.length) (h : lenBytesCount f + saidLength f bs ≤ bs.length) :
    received f (bs ++ [b]) = { received f bs with crc := (received f bs).crc ++ [b] } := by
  rw [received, saidLength_append f bs [b] hlw, List.take_append_of_le_length hlw, List.take_append_of_le_length h,
    List.drop_append_of_le_length h]
  rfl

/-- The payload of a longer body is no shorter. -/
theorem received_payload_length_le : (received f bs).payload.length ≤ (received f (bs ++ more)).payload.length := by
  simp only [received, cutRegion, List.length_drop, List.length_take, List.length_append]
  rcases Nat.lt_or_ge bs.length (lenBytesCount f) with h | h
  · omega
  · rw [saidLength_append f bs more h]
    omega

end

/-! ## The state of a reception -/

/-- What a reception that began in `s` keeps until the frame ends. -/
structure RxKept (s t : State) : Prop where
  radio : t.radio = .rx
  cfg : t.cfg = s.cfg
  frameCfg : frameCfgOf t = frameCfgOf s
  threshold : t.regs.rxFifoThr = s.regs.rxFifoThr
  err : t.err = s.err
  txFifo : t.txFifo = s.txFifo
  airOut : t.airOut = s.airOut
  csma : t.csma = s.csma
  faults : t.faults = s.faults
  input : t.input = s.input
  sync : flagged .syncDetected t.regs = true

/-- A reception that began in `s` and has taken in the fields `r`, up to the phase it goes on in. -/
structure RxAt (s : State) (r : Received) (t : State) : Prop extends RxKept s t where
  lenGot : t.rx.lenGot.toNat = r.len.length
  len : t.rx.len.toNat = bigEndian r.len
  rxLen : r.len.length = lenBytesCount (frameCfgOf s) → (pair t.regs.rxLen1 t.regs.rxLen0).toNat = bigEndian r.len
  payloadLeft : r.len.length = lenBytesCount (frameCfgOf s) →
    t.rx.payloadLeft.toNat + r.payload.length + overhead (frameCfgOf s) = bigEndian r.len
  rxAddr : t.regs.rxAddr = r.addr.getD s.regs.rxAddr
  rxCtrl : t.regs.rxCtrl = r.ctrl.getD s.regs.rxCtrl
  crcAcc : t.rx.crcAcc = runningCrc (frameCfgOf s) r.region
  crcGot : t.rx.crcGot.toNat = r.crc.length
  crcRecv : t.rx.crcRecv.toNat = bigEndian r.crc
  rxFifo : t.rxFifo = s.rxFifo ++ r.payload
  almostFull : s.rxFifo.length < s.regs.rxFifoThr.toNat →
    flagged .rxFifoAlmostFull t.regs =
      (flagged .rxFifoAlmostFull s.regs || decide (s.regs.rxFifoThr.toNat ≤ t.rxFifo.length))

section

variable {s t : State} {r : Received}

theorem RxAt.setInput (h : RxAt s r t) (i : List Input) : RxAt { s with input := i } r { t with input := i } :=
  { h with input := rfl }

theorem RxAt.setPhase (h : RxAt s r t) (q : RxPhase) : RxAt s r (setRxPhase q t) :=
  { h with }

/-- SyncDetected begins a frame with nothing of it received (42_packet_engine.md R237). -/
theorem rxAt_syncDetected (s : State) (hr : s.radio = .rx) :
    RxAt s (received (frameCfgOf s) []) (syncDetected s) where
  radio := hr
  cfg := rfl
  frameCfg := frameCfgOf_signal .syncDetected _
  threshold := by rw [syncDetected, signal_regs, setEventFlag_eq]
  err := rfl
  txFifo := rfl
  airOut := rfl
  csma := rfl
  faults := rfl
  input := rfl
  sync := by rw [syncDetected, signal_regs, flagged_setEventFlag]; rfl
  lenGot := by simp [received, cutRegion, syncDetected]
  len := by simp [received, cutRegion, syncDetected, bigEndian_nil]
  rxLen h := absurd h (by have := lenBytesCount_pos (frameCfgOf s); simp [received, cutRegion]; omega)
  payloadLeft h := absurd h (by have := lenBytesCount_pos (frameCfgOf s); simp [received, cutRegion]; omega)
  rxAddr := by simp [received, cutRegion, syncDetected, setEventFlag_eq]
  rxCtrl := by simp [received, cutRegion, syncDetected, setEventFlag_eq]
  crcAcc := by simp [received, cutRegion, syncDetected, runningCrc]
  crcGot := by simp [received, cutRegion, syncDetected]
  crcRecv := by simp [received, cutRegion, syncDetected, bigEndian_nil]
  rxFifo := by simp [received, cutRegion, syncDetected]
  almostFull h := by
    rw [syncDetected, signal_regs, flagged_setEventFlag]
    have hbelow : ¬ s.regs.rxFifoThr.toNat ≤ s.rxFifo.length := Nat.not_le.2 h
    simp [hbelow]

end

/-! ### A byte in each phase (42_packet_engine.md R239 to R242, R247) -/

theorem toNat_shiftLeft_or (w : Nat) (v : BitVec w) (b : Byte) (hw : 8 ≤ w) (h : b.toNat + 256 * v.toNat < 2 ^ w) :
    ((v <<< 8) ||| b.zeroExtend w).toNat = b.toNat + 256 * v.toNat := by
  have hb : b.toNat < 2 ^ 8 := b.isLt
  rw [BitVec.toNat_or, BitVec.toNat_shiftLeft, BitVec.toNat_setWidth_of_le hw, Nat.shiftLeft_eq,
    Nat.mod_eq_of_lt (by omega), Nat.mul_comm, ← Nat.two_pow_add_eq_or_of_lt hb, Nat.add_comm]

theorem shiftLen_toNat (l : BitVec 16) (b : Byte) (h : l.toNat < 256) :
    (shiftLen l b).toNat = b.toNat + 256 * l.toNat :=
  toNat_shiftLeft_or 16 l b (by decide) (by omega)

theorem shiftCrc_toNat (f : FrameCfg) (v : BitVec 32) (b : Byte)
    (h : b.toNat + 256 * v.toNat < 2 ^ crcWidth f.crcMode) :
    (shiftCrc f.crcMode v b).toNat = b.toNat + 256 * v.toNat := by
  have hw : crcWidth f.crcMode ≤ 32 := by
    have hcount := crcCount_le f
    rw [crcWidth_eq]
    omega
  have hpow : 2 ^ crcWidth f.crcMode ≤ 2 ^ 32 := Nat.pow_le_pow_right (by decide) hw
  have hpos := Nat.two_pow_pos (crcWidth f.crcMode)
  have hmask : (crcMask f.crcMode).toNat = 2 ^ crcWidth f.crcMode - 1 := Nat.mod_eq_of_lt (by omega)
  rw [shiftCrc, BitVec.toNat_and, hmask, Nat.and_two_pow_sub_one_eq_mod,
    toNat_shiftLeft_or 32 v b (by decide) (h.trans_le hpow), Nat.mod_eq_of_lt h]

/-- The state after a byte of the length field, before the field is judged. -/
def lenTaken (b : Byte) (t : State) : State :=
  { t with
    rx :=
      { t.rx with
        len := shiftLen t.rx.len b
        lenGot := t.rx.lenGot + 1
        crcAcc := crcUpdate (frameCfgOf t).crcMode t.rx.crcAcc b } }

/-- The state after the last byte of a length field that says enough, before `Advance`. -/
def lenStored (b : Byte) (t : State) : State :=
  { storeRxLen (shiftLen t.rx.len b) (lenTaken b t) with
    rx :=
      { (lenTaken b t).rx with
        payloadLeft := shiftLen t.rx.len b - BitVec.ofNat 16 (overhead (frameCfgOf t)) } }

theorem rxByte_of_len (b : Byte) (t : State) (hp : t.rx.phase = .len) :
    rxByte b t =
      if (t.rx.lenGot + 1).toNat = lenBytesCount (frameCfgOf t) then
        if (shiftLen t.rx.len b).toNat < overhead (frameCfgOf t) then
          lengthMismatch (storeRxLen (shiftLen t.rx.len b) (lenTaken b t))
        else advance .len (lenStored b t)
      else lenTaken b t := by
  unfold rxByte
  rw [hp]
  rfl

/-- The state after the address byte, before `Advance`. -/
def addrTaken (b : Byte) (t : State) : State :=
  { rxCrcUpdate b t with regs := { t.regs with rxAddr := b } }

theorem rxByte_of_addr (b : Byte) (t : State) (hp : t.rx.phase = .addr) :
    rxByte b t = advance .addr (addrTaken b t) := by
  unfold rxByte
  rw [hp]
  rfl

/-- The state after the control byte, before `Advance`. -/
def ctrlTaken (b : Byte) (t : State) : State :=
  { rxCrcUpdate b t with regs := { t.regs with rxCtrl := b } }

theorem rxByte_of_ctrl (b : Byte) (t : State) (hp : t.rx.phase = .ctrl) :
    rxByte b t = advance .ctrl (ctrlTaken b t) := by
  unfold rxByte
  rw [hp]
  rfl

/-- The state after a byte of the CRC field, before the frame is judged. -/
def crcTaken (b : Byte) (t : State) : State :=
  { t with
    rx :=
      { t.rx with
        crcRecv := shiftCrc (frameCfgOf t).crcMode t.rx.crcRecv b
        crcGot := t.rx.crcGot + 1 } }

theorem rxByte_of_crc (b : Byte) (t : State) (hp : t.rx.phase = .crc) :
    rxByte b t =
      if (t.rx.crcGot + 1).toNat = crcCount (frameCfgOf t) then frameEnd (crcTaken b t) else crcTaken b t := by
  unfold rxByte
  rw [hp]
  rfl

section

variable {s t : State} {f : FrameCfg} {len region : List Byte} {b : Byte}

theorem runningCrc_snoc_of_rxAt {r : Received} (h : RxAt s r t) (b : Byte) :
    crcUpdate (frameCfgOf t).crcMode t.rx.crcAcc b = runningCrc (frameCfgOf s) (r.region ++ [b]) := by
  rw [runningCrc_append_singleton, h.crcAcc, h.frameCfg]

/-- How far the length has come after one more byte of it. -/
theorem lenTaken_length (h : RxAt s (cutRegion (frameCfgOf s) len len []) t)
    (hlen : len.length < lenBytesCount (frameCfgOf s)) (b : Byte) :
    (t.rx.lenGot + 1).toNat = (len ++ [b]).length ∧ (shiftLen t.rx.len b).toNat = bigEndian (len ++ [b]) := by
  have hle := lenBytesCount_le (frameCfgOf s)
  have hgot : t.rx.lenGot.toNat = len.length := h.lenGot
  have hvalue : t.rx.len.toNat = bigEndian len := h.len
  have hsmall : bigEndian len < 256 := (bigEndian_lt len).trans_le (Nat.pow_le_pow_right (by decide) (by omega : _ ≤ 1))
  refine ⟨?_, ?_⟩
  · rw [BitVec.toNat_add, hgot, List.length_append]
    exact Nat.mod_eq_of_lt (by simp; omega)
  · rw [shiftLen_toNat _ _ (by omega), hvalue, bigEndian_append_singleton]

theorem rxAt_lenTaken (h : RxAt s (cutRegion (frameCfgOf s) len len []) t)
    (hlen : len.length + 1 < lenBytesCount (frameCfgOf s)) (b : Byte) :
    RxAt s (cutRegion (frameCfgOf s) (len ++ [b]) (len ++ [b]) []) (lenTaken b t) :=
  have hnot : (len ++ [b]).length ≠ lenBytesCount (frameCfgOf s) := by simp; omega
  have hnil (bs : List Byte) (hbs : bs.length ≤ lenBytesCount (frameCfgOf s)) :
      (cutRegion (frameCfgOf s) bs bs []).payload = [] := cutRegion_payload_nil _ _ _ _ (by omega)
  { h with
    lenGot := (lenTaken_length h (by omega) b).1
    len := (lenTaken_length h (by omega) b).2
    rxLen := fun hfull => absurd hfull hnot
    payloadLeft := fun hfull => absurd hfull hnot
    rxAddr := by
      rw [cutRegion_addr_snoc_of_ne _ _ _ _ _ (fun _ => by omega)]
      exact h.rxAddr
    rxCtrl := by
      rw [cutRegion_ctrl_snoc_of_ne _ _ _ _ _ (fun _ => by omega)]
      exact h.rxCtrl
    crcAcc := runningCrc_snoc_of_rxAt h b
    rxFifo := by
      rw [hnil _ (by simp; omega), ← hnil len (by omega)]
      exact h.rxFifo }

theorem pair_storeRxLen (l : BitVec 16) : (pair (l.extractLsb' 8 8) (l.extractLsb' 0 8)).toNat = l.toNat := by
  rw [pair_toNat, BitVec.extractLsb'_toNat, BitVec.extractLsb'_toNat]
  omega

theorem rxAt_lenStored (h : RxAt s (cutRegion (frameCfgOf s) len len []) t)
    (hlen : len.length + 1 = lenBytesCount (frameCfgOf s)) (b : Byte)
    (hsays : overhead (frameCfgOf s) ≤ bigEndian (len ++ [b])) :
    RxAt s (cutRegion (frameCfgOf s) (len ++ [b]) (len ++ [b]) []) (lenStored b t) :=
  have hnil (bs : List Byte) (hbs : bs.length ≤ lenBytesCount (frameCfgOf s)) :
      (cutRegion (frameCfgOf s) bs bs []).payload = [] := cutRegion_payload_nil _ _ _ _ (by omega)
  have hvalue := (lenTaken_length h (by omega) b).2
  { h with
    lenGot := (lenTaken_length h (by omega) b).1
    len := hvalue
    rxLen := fun _ => (pair_storeRxLen _).trans hvalue
    payloadLeft := fun _ => by
      have hsmall : overhead (frameCfgOf s) < 2 ^ 16 := (hsays.trans_eq hvalue.symm).trans_lt (BitVec.isLt _)
      have hover : (BitVec.ofNat 16 (overhead (frameCfgOf s))).toNat = overhead (frameCfgOf s) := by
        rw [BitVec.toNat_ofNat, Nat.mod_eq_of_lt hsmall]
      have hleft : (lenStored b t).rx.payloadLeft.toNat = bigEndian (len ++ [b]) - overhead (frameCfgOf s) := by
        show (shiftLen t.rx.len b - BitVec.ofNat 16 (overhead (frameCfgOf t))).toNat = _
        rw [h.frameCfg, BitVec.toNat_sub_of_le (by rw [BitVec.le_def, hover, hvalue]; exact hsays), hvalue, hover]
      rw [hleft, hnil _ (by simp; omega), List.length_nil]
      show _ = bigEndian (len ++ [b])
      omega
    rxAddr := by
      rw [cutRegion_addr_snoc_of_ne _ _ _ _ _ (fun _ => by omega)]
      exact h.rxAddr
    rxCtrl := by
      rw [cutRegion_ctrl_snoc_of_ne _ _ _ _ _ (fun _ => by omega)]
      exact h.rxCtrl
    crcAcc := runningCrc_snoc_of_rxAt h b
    rxFifo := by
      rw [hnil _ (by simp; omega), ← hnil len (by omega)]
      exact h.rxFifo }

theorem rxAt_addrTaken (h : RxAt s (cutRegion (frameCfgOf s) len region []) t) (b : Byte)
    (hen : (frameCfgOf s).addrEn = true) (hpos : region.length = lenBytesCount (frameCfgOf s)) :
    RxAt s (cutRegion (frameCfgOf s) len (region ++ [b]) []) (addrTaken b t) :=
  have hpayload : (cutRegion (frameCfgOf s) len (region ++ [b]) []).payload =
      (cutRegion (frameCfgOf s) len region []).payload := by
    rw [cutRegion_payload_nil _ _ _ _ (by simp [hpos, overhead, hen]), cutRegion_payload_nil _ _ _ _ (by omega)]
  { h with
    payloadLeft := by
      rw [hpayload]
      exact h.payloadLeft
    rxAddr := by
      rw [cutRegion_addr_snoc _ _ _ _ _ hen hpos]
      rfl
    rxCtrl := by
      rw [cutRegion_ctrl_snoc_of_ne _ _ _ _ _ (fun _ => by simp [hpos, hen])]
      exact h.rxCtrl
    crcAcc := runningCrc_snoc_of_rxAt h b
    rxFifo := by
      rw [hpayload]
      exact h.rxFifo }

theorem rxAt_ctrlTaken (h : RxAt s (cutRegion (frameCfgOf s) len region []) t) (b : Byte)
    (hen : (frameCfgOf s).ctrlEn = true)
    (hpos : region.length = lenBytesCount (frameCfgOf s) + (frameCfgOf s).addrEn.toNat) :
    RxAt s (cutRegion (frameCfgOf s) len (region ++ [b]) []) (ctrlTaken b t) :=
  have hpayload : (cutRegion (frameCfgOf s) len (region ++ [b]) []).payload =
      (cutRegion (frameCfgOf s) len region []).payload := by
    rw [cutRegion_payload_nil _ _ _ _ (by simp [hpos, overhead, hen]),
      cutRegion_payload_nil _ _ _ _ (by unfold overhead; omega)]
  { h with
    payloadLeft := by
      rw [hpayload]
      exact h.payloadLeft
    rxAddr := by
      rw [cutRegion_addr_snoc_of_ne _ _ _ _ _ (fun ha => by simp [hpos, ha])]
      exact h.rxAddr
    rxCtrl := by
      rw [cutRegion_ctrl_snoc _ _ _ _ _ hen hpos]
      rfl
    crcAcc := runningCrc_snoc_of_rxAt h b
    rxFifo := by
      rw [hpayload]
      exact h.rxFifo }

/-- A push changes no register but the flags of the threshold's event (44_event_routing.md R324). -/
theorem rxPush_regs (b : Byte) (t : State) :
    (∃ v, (rxPush b t).regs = { t.regs with eventFlags0 := v }) ∧
      flagged .rxFifoAlmostFull (rxPush b t).regs =
        (decide (t.rxFifo.length + 1 = t.regs.rxFifoThr.toNat) || flagged .rxFifoAlmostFull t.regs) := by
  rw [rxPush_cases]
  split
  next h =>
    refine ⟨⟨_, setEventFlag_eq (eventSel .rxFifoAlmostFull) t.regs⟩, ?_⟩
    rw [signal_regs, flagged_setEventFlag]
    simp [h]
  next h => exact ⟨⟨_, rfl⟩, by simp [h]⟩

theorem rxPush_rxFifo (b : Byte) (t : State) : (rxPush b t).rxFifo = t.rxFifo ++ [b] := by
  rw [rxPush_cases]
  split <;> rfl

theorem rxKept_rxPush (h : RxKept s t) (b : Byte) : RxKept s (rxPush b t) := by
  rw [rxPush_cases]
  split
  · exact { h with
      frameCfg := (frameCfgOf_signal .rxFifoAlmostFull _).trans h.frameCfg
      threshold := by rw [signal_regs, setEventFlag_eq]; exact h.threshold
      sync := by rw [signal_regs, flagged_setEventFlag]; exact h.sync }
  · exact { h with }

theorem rxAt_payloadTaken (h : RxAt s (cutRegion (frameCfgOf s) len region []) t) (b : Byte)
    (hpos : lenBytesCount (frameCfgOf s) + overhead (frameCfgOf s) ≤ region.length)
    (hlen : len.length = lenBytesCount (frameCfgOf s)) (hleft : 0 < t.rx.payloadLeft.toNat) :
    RxAt s (cutRegion (frameCfgOf s) len (region ++ [b]) []) (payloadTaken b t) := by
  obtain ⟨⟨v, hregs⟩, hflag⟩ := rxPush_regs b t
  have hpayload := cutRegion_payload_snoc (frameCfgOf s) len region [] b hpos
  have hkept := rxKept_rxPush h.toRxKept b
  exact { hkept with
    lenGot := h.lenGot
    len := h.len
    rxLen := by
      show _ → (pair (rxPush b t).regs.rxLen1 (rxPush b t).regs.rxLen0).toNat = _
      rw [hregs]
      exact h.rxLen
    payloadLeft := fun _ => by
      have hone : (t.rx.payloadLeft - 1).toNat = t.rx.payloadLeft.toNat - 1 :=
        BitVec.toNat_sub_of_le (by rw [BitVec.le_def]; exact hleft)
      have hbefore := h.payloadLeft hlen
      show (t.rx.payloadLeft - 1).toNat + _ + _ = bigEndian len
      rw [hone, hpayload, List.length_append, List.length_singleton]
      change _ = bigEndian len at hbefore
      omega
    rxAddr := by
      show (rxPush b t).regs.rxAddr = _
      rw [hregs, cutRegion_addr_snoc_of_ne _ _ _ _ _ (fun ha => by simp [overhead, ha] at hpos; omega)]
      exact h.rxAddr
    rxCtrl := by
      show (rxPush b t).regs.rxCtrl = _
      rw [hregs, cutRegion_ctrl_snoc_of_ne _ _ _ _ _ (fun hc => by simp [overhead, hc] at hpos; omega)]
      exact h.rxCtrl
    crcAcc := runningCrc_snoc_of_rxAt h b
    crcGot := h.crcGot
    crcRecv := h.crcRecv
    rxFifo := by
      show (rxPush b t).rxFifo = _
      rw [rxPush_rxFifo, hpayload, h.rxFifo, List.append_assoc]
    almostFull := fun hbelow => by
      show flagged _ (rxPush b t).regs = (_ || decide (_ ≤ (rxPush b t).rxFifo.length))
      rw [hflag, h.almostFull hbelow, h.threshold, rxPush_rxFifo, List.length_append, List.length_singleton]
      grind }

theorem rxAt_crcTaken {r : Received} (h : RxAt s r t) (b : Byte) (hmore : r.crc.length < crcCount (frameCfgOf s)) :
    RxAt s { r with crc := r.crc ++ [b] } (crcTaken b t) :=
  { h with
    crcGot := by
      have hcount := crcCount_le (frameCfgOf s)
      show (t.rx.crcGot + 1).toNat = _
      rw [BitVec.toNat_add, h.crcGot, List.length_append]
      exact Nat.mod_eq_of_lt (by simp; omega)
    crcRecv := by
      have hfits : bigEndian (r.crc ++ [b]) < 2 ^ crcWidth (frameCfgOf s).crcMode := by
        rw [two_pow_crcWidth]
        exact (bigEndian_lt _).trans_le (Nat.pow_le_pow_right (by decide) (by simp; omega))
      rw [bigEndian_append_singleton, ← h.crcRecv] at hfits
      show (shiftCrc (frameCfgOf t).crcMode t.rx.crcRecv b).toNat = _
      rw [h.frameCfg, shiftCrc_toNat _ _ _ hfits, h.crcRecv, bigEndian_append_singleton] }

end

/-! ### Which phase a reception is in -/

/-- The phase in which byte `k` of a body is due whose length field says `l` (42_packet_engine.md R238). -/
def phaseAt (f : FrameCfg) (l k : Nat) : RxPhase :=
  if k < lenBytesCount f then .len
  else if k < lenBytesCount f + f.addrEn.toNat then .addr
  else if k < lenBytesCount f + overhead f then .ctrl
  else if k < lenBytesCount f + l then .payload
  else .crc

/-- How a reception goes on after `k` bytes of such a body: with the next field, or with the end of the frame. -/
def resume (f : FrameCfg) (l k : Nat) (u : State) : State :=
  if k = lenBytesCount f + l + crcCount f then frameEnd u else setRxPhase (phaseAt f l k) u

section

variable {f : FrameCfg} {l k : Nat}

theorem phaseAt_len (h : k < lenBytesCount f) : phaseAt f l k = .len := if_pos h

theorem phaseAt_addr (h : lenBytesCount f ≤ k) (h' : k < lenBytesCount f + f.addrEn.toNat) : phaseAt f l k = .addr := by
  rw [phaseAt, if_neg (by omega), if_pos h']

theorem phaseAt_ctrl (h : lenBytesCount f + f.addrEn.toNat ≤ k) (h' : k < lenBytesCount f + overhead f) :
    phaseAt f l k = .ctrl := by
  rw [phaseAt, if_neg (by omega), if_neg (by omega), if_pos h']

theorem addrEn_le_overhead (f : FrameCfg) : f.addrEn.toNat ≤ overhead f := Nat.le_add_right _ _

theorem phaseAt_payload (h : lenBytesCount f + overhead f ≤ k) (h' : k < lenBytesCount f + l) :
    phaseAt f l k = .payload := by
  have hle := addrEn_le_overhead f
  rw [phaseAt, if_neg (by omega), if_neg (by omega), if_neg (by omega), if_pos h']

theorem phaseAt_crc (hl : overhead f ≤ l) (h : lenBytesCount f + l ≤ k) : phaseAt f l k = .crc := by
  have hle := addrEn_le_overhead f
  rw [phaseAt, if_neg (by omega), if_neg (by omega), if_neg (by omega), if_neg (by omega)]

theorem phaseAt_ne_hunt (f : FrameCfg) (l k : Nat) : phaseAt f l k ≠ .hunt := by
  unfold phaseAt
  repeat' split
  all_goals decide

theorem resume_of_ne (h : k ≠ lenBytesCount f + l + crcCount f) (u : State) :
    resume f l k u = setRxPhase (phaseAt f l k) u := if_neg h

theorem setRxPhase_self (q : RxPhase) (u : State) (h : u.rx.phase = q) : setRxPhase q u = u := by
  rw [← h]
  rfl

end

/-! `Advance` goes on at the position behind its field. -/

section

variable {f : FrameCfg} {l : Nat} {u : State} (hf : frameCfgOf u = f)

include hf

theorem advance_payload_eq_resume (hl : overhead f ≤ l) : advance .payload u = resume f l (lenBytesCount f + l) u := by
  rw [advance_payload, hf]
  split
  next h => rw [resume_of_ne (by omega), phaseAt_crc hl (by omega)]
  next h => rw [resume, if_pos (by omega)]

variable (hleft : u.rx.payloadLeft.toNat + overhead f = l)

include hleft

theorem advance_ctrl_eq_resume : advance .ctrl u = resume f l (lenBytesCount f + overhead f) u := by
  rw [advance_ctrl]
  split
  next h => rw [resume_of_ne (by omega), phaseAt_payload (by omega) (by omega)]
  next h =>
    rw [advance_payload_eq_resume hf (by omega : overhead f ≤ l), show overhead f = l by omega]

theorem advance_addr_eq_resume : advance .addr u = resume f l (lenBytesCount f + f.addrEn.toNat) u := by
  rw [advance_addr, hf]
  cases hc : f.ctrlEn with
  | true =>
    have hover : overhead f = f.addrEn.toNat + 1 := by rw [overhead, hc]; rfl
    rw [if_pos rfl, resume_of_ne (by omega), phaseAt_ctrl (by omega) (by omega)]
  | false =>
    have hover : overhead f = f.addrEn.toNat := by rw [overhead, hc]; rfl
    rw [if_neg Bool.false_ne_true, advance_ctrl_eq_resume hf hleft, hover]

theorem advance_len_eq_resume : advance .len u = resume f l (lenBytesCount f) u := by
  have hle := addrEn_le_overhead f
  rw [advance_len, hf]
  cases ha : f.addrEn with
  | true =>
    have hone : f.addrEn.toNat = 1 := by rw [ha]; rfl
    rw [if_pos rfl, resume_of_ne (by omega), phaseAt_addr (by omega) (by omega)]
  | false =>
    have hzero : f.addrEn.toNat = 0 := by rw [ha]; rfl
    rw [if_neg Bool.false_ne_true, advance_addr_eq_resume hf hleft, hzero, Nat.add_zero]

end

/-! ### One received byte -/

/-- More bytes are due: of the length field, or of a frame whose length is no mismatch (42_packet_engine.md R239). -/
def Unfinished (f : FrameCfg) (bs : List Byte) : Prop :=
  bs.length < lenBytesCount f ∨
    overhead f ≤ saidLength f bs ∧ bs.length < lenBytesCount f + saidLength f bs + crcCount f

theorem Unfinished.of_append {f : FrameCfg} {bs more : List Byte} (h : Unfinished f (bs ++ more)) :
    Unfinished f bs := by
  rcases Nat.lt_or_ge bs.length (lenBytesCount f) with hlt | hge
  · exact .inl hlt
  · unfold Unfinished at h ⊢
    rw [saidLength_append f bs more hge, List.length_append] at h
    omega

/-- The reception that began in `s` after the bytes `bs`, with more bytes due. -/
structure RxProgress (s : State) (bs : List Byte) (t : State) : Prop where
  fields : RxAt s (received (frameCfgOf s) bs) t
  phase : t.rx.phase = phaseAt (frameCfgOf s) (saidLength (frameCfgOf s) bs) bs.length
  unfinished : Unfinished (frameCfgOf s) bs

theorem rxProgress_nil (s : State) (hr : s.radio = .rx) : RxProgress s [] (syncDetected s) where
  fields := rxAt_syncDetected s hr
  phase := (phaseAt_len (lenBytesCount_pos _)).symm
  unfinished := .inl (lenBytesCount_pos _)

/-- The RX FIFO has room for the payload that a body has brought (42_packet_engine.md R243). -/
def HasRoom (s : State) (bs : List Byte) : Prop :=
  (received (frameCfgOf s) bs).payload.length = 0 ∨
    s.rxFifo.length + (received (frameCfgOf s) bs).payload.length ≤ s.cfg.fifoCap

theorem HasRoom.of_append {s : State} {bs more : List Byte} (h : HasRoom s (bs ++ more)) : HasRoom s bs := by
  have hle := received_payload_length_le (frameCfgOf s) bs more
  unfold HasRoom at h ⊢
  omega

/-- What one byte must do: leave the fields of the longer body, and go on behind it. -/
def TakesByte (s : State) (bs : List Byte) (b : Byte) (t : State) : Prop :=
  ∃ u, RxAt s (received (frameCfgOf s) (bs ++ [b])) u ∧
    rxByte b t = resume (frameCfgOf s) (saidLength (frameCfgOf s) (bs ++ [b])) (bs.length + 1) u

section

variable {s t : State} {bs : List Byte} (b : Byte)

theorem saidLength_eq_bigEndian (f : FrameCfg) (bs : List Byte) : saidLength f bs = bigEndian (received f bs).len :=
  lenValue_eq_bigEndian _ ((List.length_take_le _ _).trans (lenBytesCount_le f))

theorem saidLength_of_length_le (f : FrameCfg) (bs : List Byte) (h : bs.length ≤ lenBytesCount f) :
    saidLength f bs = bigEndian bs := by
  rw [saidLength_eq_bigEndian, received, cutRegion, List.take_of_length_le h]

/-- What `payloadLeft` counts down from, once the length field is there. -/
theorem RxAt.payloadLeft_eq {u : State} (h : RxAt s (received (frameCfgOf s) bs) u)
    (hlw : lenBytesCount (frameCfgOf s) ≤ bs.length) :
    u.rx.payloadLeft.toNat + (received (frameCfgOf s) bs).payload.length + overhead (frameCfgOf s) =
      saidLength (frameCfgOf s) bs := by
  rw [saidLength_eq_bigEndian]
  exact h.payloadLeft (List.length_take_of_le hlw)

theorem takesByte_of_len (h : RxProgress s bs t) (hlt : bs.length < lenBytesCount (frameCfgOf s))
    (hsays : bs.length + 1 = lenBytesCount (frameCfgOf s) →
      overhead (frameCfgOf s) ≤ saidLength (frameCfgOf s) (bs ++ [b])) : TakesByte s bs b t := by
  obtain ⟨hbefore, hafter⟩ := received_snoc_of_len (frameCfgOf s) bs b hlt
  have hfields := h.fields
  rw [hbefore] at hfields
  obtain ⟨hgot, hvalue⟩ := lenTaken_length hfields hlt b
  have hsaid : saidLength (frameCfgOf s) (bs ++ [b]) = bigEndian (bs ++ [b]) :=
    saidLength_of_length_le _ _ (by simp; omega)
  have hphase : t.rx.phase = .len := h.phase.trans (phaseAt_len hlt)
  unfold TakesByte
  rw [hafter, rxByte_of_len b t hphase, hgot, hvalue, hfields.frameCfg, List.length_append, List.length_singleton]
  split
  next hlast =>
    have hover : overhead (frameCfgOf s) ≤ bigEndian (bs ++ [b]) := (hsays hlast).trans_eq hsaid
    have hat := rxAt_lenStored hfields hlast b hover
    refine ⟨lenStored b t, hat, ?_⟩
    rw [if_neg (by omega), hlast]
    rw [← hafter] at hat
    refine advance_len_eq_resume hat.frameCfg ?_
    rw [← hat.payloadLeft_eq (by simp; omega), hafter, cutRegion_payload_nil _ _ _ _ (by simp; omega)]
    rfl
  next hmore =>
    refine ⟨lenTaken b t, rxAt_lenTaken hfields (by omega) b, ?_⟩
    rw [resume_of_ne (by omega), phaseAt_len (by omega), setRxPhase_self _ (lenTaken b t) hphase]

variable (hover : overhead (frameCfgOf s) ≤ saidLength (frameCfgOf s) bs)

include hover

theorem takesByte_of_addr (h : RxProgress s bs t) (hlw : lenBytesCount (frameCfgOf s) ≤ bs.length)
    (hlt : bs.length < lenBytesCount (frameCfgOf s) + (frameCfgOf s).addrEn.toNat) : TakesByte s bs b t := by
  have hle := addrEn_le_overhead (frameCfgOf s)
  have hone : (frameCfgOf s).addrEn.toNat ≤ 1 := Bool.toNat_le _
  have hen : (frameCfgOf s).addrEn = true := Bool.toNat_eq_one.1 (by omega)
  obtain ⟨hbefore, hafter⟩ := received_snoc_of_region (frameCfgOf s) bs b hlw (by omega)
  have hfields := h.fields
  rw [hbefore] at hfields
  have hat := rxAt_addrTaken hfields b hen (by omega)
  rw [← hafter] at hat
  refine ⟨addrTaken b t, hat, ?_⟩
  rw [rxByte_of_addr b t (h.phase.trans (phaseAt_addr hlw hlt)),
    show bs.length + 1 = lenBytesCount (frameCfgOf s) + (frameCfgOf s).addrEn.toNat by omega]
  refine advance_addr_eq_resume hat.frameCfg ?_
  rw [← hat.payloadLeft_eq (by simp; omega), hafter, cutRegion_payload_nil _ _ _ _ (by simp; omega)]
  rfl

theorem takesByte_of_ctrl (h : RxProgress s bs t)
    (hge : lenBytesCount (frameCfgOf s) + (frameCfgOf s).addrEn.toNat ≤ bs.length)
    (hlt : bs.length < lenBytesCount (frameCfgOf s) + overhead (frameCfgOf s)) : TakesByte s bs b t := by
  have hone : (frameCfgOf s).ctrlEn.toNat ≤ 1 := Bool.toNat_le _
  have hsum : overhead (frameCfgOf s) = (frameCfgOf s).addrEn.toNat + (frameCfgOf s).ctrlEn.toNat := rfl
  have hen : (frameCfgOf s).ctrlEn = true := Bool.toNat_eq_one.1 (by omega)
  obtain ⟨hbefore, hafter⟩ := received_snoc_of_region (frameCfgOf s) bs b (by omega) (by omega)
  have hfields := h.fields
  rw [hbefore] at hfields
  have hat := rxAt_ctrlTaken hfields b hen (by omega)
  rw [← hafter] at hat
  refine ⟨ctrlTaken b t, hat, ?_⟩
  rw [rxByte_of_ctrl b t (h.phase.trans (phaseAt_ctrl hge hlt)),
    show bs.length + 1 = lenBytesCount (frameCfgOf s) + overhead (frameCfgOf s) by omega]
  refine advance_ctrl_eq_resume hat.frameCfg ?_
  rw [← hat.payloadLeft_eq (by simp; omega), hafter, cutRegion_payload_nil _ _ _ _ (by simp; omega)]
  rfl

theorem takesByte_of_payload (h : RxProgress s bs t)
    (hge : lenBytesCount (frameCfgOf s) + overhead (frameCfgOf s) ≤ bs.length)
    (hlt : bs.length < lenBytesCount (frameCfgOf s) + saidLength (frameCfgOf s) bs)
    (hroom : HasRoom s (bs ++ [b])) :
    TakesByte s bs b t := by
  obtain ⟨hbefore, hafter⟩ := received_snoc_of_region (frameCfgOf s) bs b (by omega) hlt
  have hsaid := saidLength_append (frameCfgOf s) bs [b] (by omega)
  have hleft := h.fields.payloadLeft_eq (by omega)
  have hfields := h.fields
  rw [hbefore] at hfields hleft
  have hlength : (cutRegion (frameCfgOf s) (bs.take (lenBytesCount (frameCfgOf s))) bs []).payload.length =
      bs.length - (lenBytesCount (frameCfgOf s) + overhead (frameCfgOf s)) := List.length_drop ..
  have hphase : t.rx.phase = .payload := h.phase.trans (phaseAt_payload hge hlt)
  have hfree : t.rxFifo.length ≠ t.cfg.fifoCap := by
    unfold HasRoom at hroom
    rw [hafter, cutRegion_payload_snoc _ _ _ _ _ hge, List.length_append, List.length_singleton] at hroom
    rw [hfields.rxFifo, hfields.cfg, List.length_append]
    omega
  have hat := rxAt_payloadTaken hfields b hge (List.length_take_of_le (by omega)) (by omega)
  rw [← hafter] at hat
  have hlast : t.rx.payloadLeft = 1 ↔ bs.length + 1 = lenBytesCount (frameCfgOf s) + saidLength (frameCfgOf s) bs := by
    rw [← BitVec.toNat_inj]
    show t.rx.payloadLeft.toNat = 1 ↔ _
    omega
  refine ⟨payloadTaken b t, hat, ?_⟩
  rw [rxByte_of_payload b t hphase, rxPayload_of_room b t hfree, hsaid]
  simp only [hlast]
  split
  next hend => rw [hend, advance_payload_eq_resume hat.frameCfg hover]
  next hmore => rw [resume_of_ne (by omega), phaseAt_payload (by omega) (by omega),
      setRxPhase_self _ (payloadTaken b t) hphase]

theorem takesByte_of_crc (h : RxProgress s bs t)
    (hge : lenBytesCount (frameCfgOf s) + saidLength (frameCfgOf s) bs ≤ bs.length)
    (hlt : bs.length < lenBytesCount (frameCfgOf s) + saidLength (frameCfgOf s) bs + crcCount (frameCfgOf s)) :
    TakesByte s bs b t := by
  have hafter := received_snoc_of_crc (frameCfgOf s) bs b (by omega) hge
  have hsaid := saidLength_append (frameCfgOf s) bs [b] (by omega)
  have hlength : (received (frameCfgOf s) bs).crc.length =
      bs.length - (lenBytesCount (frameCfgOf s) + saidLength (frameCfgOf s) bs) := List.length_drop ..
  have hphase : t.rx.phase = .crc := h.phase.trans (phaseAt_crc hover hge)
  have hat := rxAt_crcTaken h.fields b (by omega)
  have hgot : (t.rx.crcGot + 1).toNat =
      bs.length + 1 - (lenBytesCount (frameCfgOf s) + saidLength (frameCfgOf s) bs) := by
    have hcrc := hat.crcGot
    rw [List.length_append, List.length_singleton] at hcrc
    exact hcrc.trans (by omega)
  refine ⟨crcTaken b t, hafter ▸ hat, ?_⟩
  rw [rxByte_of_crc b t hphase, hsaid, hgot, h.fields.frameCfg]
  split
  next hend => rw [resume, if_pos (by omega)]
  next hmore => rw [resume_of_ne (by omega), phaseAt_crc hover (by omega), setRxPhase_self _ (crcTaken b t) hphase]

end

theorem takesByte_of_progress {s t : State} {bs : List Byte} (b : Byte) (h : RxProgress s bs t)
    (hsays : bs.length + 1 = lenBytesCount (frameCfgOf s) →
      overhead (frameCfgOf s) ≤ saidLength (frameCfgOf s) (bs ++ [b]))
    (hroom : HasRoom s (bs ++ [b])) :
    TakesByte s bs b t := by
  have hunfinished := h.unfinished
  rcases Nat.lt_or_ge bs.length (lenBytesCount (frameCfgOf s)) with hlen | hlen
  · exact takesByte_of_len b h hlen hsays
  obtain ⟨hover, hmore⟩ := hunfinished.resolve_left (by omega)
  rcases Nat.lt_or_ge bs.length (lenBytesCount (frameCfgOf s) + (frameCfgOf s).addrEn.toNat) with haddr | haddr
  · exact takesByte_of_addr b hover h hlen haddr
  rcases Nat.lt_or_ge bs.length (lenBytesCount (frameCfgOf s) + overhead (frameCfgOf s)) with hctrl | hctrl
  · exact takesByte_of_ctrl b hover h haddr hctrl
  rcases Nat.lt_or_ge bs.length (lenBytesCount (frameCfgOf s) + saidLength (frameCfgOf s) bs) with hpayload | hpayload
  · exact takesByte_of_payload b hover h hctrl hpayload hroom
  · exact takesByte_of_crc b hover h hpayload hmore

/-- The body of a frame is complete (42_packet_engine.md R227). -/
def Finished (f : FrameCfg) (bs : List Byte) : Prop :=
  overhead f ≤ saidLength f bs ∧ bs.length = lenBytesCount f + saidLength f bs + crcCount f

section

variable {s t : State} {bs : List Byte} {b : Byte}

theorem rxProgress_rxByte (h : RxProgress s bs t) (hun : Unfinished (frameCfgOf s) (bs ++ [b]))
    (hroom : HasRoom s (bs ++ [b])) : RxProgress s (bs ++ [b]) (rxByte b t) := by
  have hlength : (bs ++ [b]).length = bs.length + 1 := List.length_append
  have hcases := hun
  unfold Unfinished at hcases
  rw [hlength] at hcases
  obtain ⟨u, hat, hbyte⟩ := takesByte_of_progress b h (by omega) hroom
  rw [hbyte, resume_of_ne (by omega)]
  exact ⟨hat.setPhase _, by rw [hlength]; rfl, hun⟩

/-- The last byte of a body ends the frame (42_packet_engine.md R238, R245). -/
theorem rxByte_of_finished (h : RxProgress s bs t) (hfin : Finished (frameCfgOf s) (bs ++ [b]))
    (hroom : HasRoom s (bs ++ [b])) :
    ∃ u, RxAt s (received (frameCfgOf s) (bs ++ [b])) u ∧ rxByte b t = frameEnd u := by
  obtain ⟨hover, hlength⟩ := hfin
  obtain ⟨u, hat, hbyte⟩ := takesByte_of_progress b h (fun _ => hover) hroom
  rw [List.length_append] at hlength
  exact ⟨u, hat, hbyte.trans (if_pos hlength)⟩

/-- A length below the overhead ends the frame at the last byte of its field (42_packet_engine.md R239). -/
theorem rxByte_of_mismatch (h : RxProgress s bs t) (hlast : bs.length + 1 = lenBytesCount (frameCfgOf s))
    (hsays : saidLength (frameCfgOf s) (bs ++ [b]) < overhead (frameCfgOf s)) :
    ∃ u, RxKept s u ∧ rxByte b t = lengthMismatch u := by
  obtain ⟨hbefore, -⟩ := received_snoc_of_len (frameCfgOf s) bs b (by omega)
  have hfields := h.fields
  rw [hbefore] at hfields
  obtain ⟨hgot, hvalue⟩ := lenTaken_length hfields (by omega) b
  rw [saidLength_of_length_le _ _ (by simp; omega)] at hsays
  refine ⟨storeRxLen (shiftLen t.rx.len b) (lenTaken b t), { hfields.toRxKept with }, ?_⟩
  rw [rxByte_of_len b t (h.phase.trans (phaseAt_len (by omega))), hgot, hvalue, hfields.frameCfg,
    if_pos (by simpa using hlast), if_pos hsays]

end

/-! ### The run -/

theorem run_rxBytes (more : List Byte) (bs : List Byte) (s t : State) (rest : List Input) (hf : s.faults = [])
    (h : RxProgress s bs t) (hun : Unfinished (frameCfgOf s) (bs ++ more)) (hroom : HasRoom s (bs ++ more))
    (hi : s.input = more.map Input.rxByte ++ rest) :
    ∃ w, RxProgress { s with input := rest } (bs ++ more) w ∧
      Host.Core.run Sys2Proof.core more.length t = .next w := by
  induction more generalizing bs s t with
  | nil =>
    rw [List.append_nil]
    exact ⟨t, ⟨{ h.fields with input := h.fields.input.trans hi }, h.phase, h.unfinished⟩, rfl⟩
  | cons b more ih =>
    have hassoc : bs ++ b :: more = (bs ++ [b]) ++ more := by simp
    rw [hassoc] at hun hroom ⊢
    have hstep := step_rxByte t b (more.map Input.rxByte ++ rest) (h.fields.faults.trans hf) h.fields.radio
      (h.phase.trans_ne (phaseAt_ne_hunt _ _ _)) (h.fields.input.trans hi)
    have hset : RxProgress { s with input := more.map Input.rxByte ++ rest } bs
        { t with input := more.map Input.rxByte ++ rest } := ⟨h.fields.setInput _, h.phase, h.unfinished⟩
    have hnext := rxProgress_rxByte hset hun.of_append hroom.of_append
    obtain ⟨w, hw, hrun⟩ := ih (bs ++ [b]) { s with input := more.map Input.rxByte ++ rest } _ hf hnext hun hroom rfl
    exact ⟨w, hw, (run_succ _ _ _ hstep).trans hrun⟩

section

variable {s : State} {body : List Byte} {rest : List Input} (hf : s.faults = []) (hr : s.radio = .rx)
  (hp : s.rx.phase = .hunt) (hroom : HasRoom s body)
  (hi : s.input = .syncDetected :: body.map Input.rxByte ++ rest)

include hf hr hp hroom hi

theorem run_unfinished (hun : Unfinished (frameCfgOf s) body) :
    ∃ w, RxProgress { s with input := rest } body w ∧
      Host.Core.run Sys2Proof.core (body.length + 1) s = .next w := by
  have hstep := step_syncDetected s (body.map Input.rxByte ++ rest) hf hr hp hi
  obtain ⟨w, hw, hrun⟩ := run_rxBytes body [] { s with input := body.map Input.rxByte ++ rest } _ rest hf
    (rxProgress_nil { s with input := body.map Input.rxByte ++ rest } hr) hun hroom rfl
  exact ⟨w, hw, (run_succ _ _ _ hstep).trans hrun⟩

/-- The run over all but the last byte of a body, and the step that takes the last one. -/
theorem run_last (hne : body ≠ []) (hun : ∀ bs b, body = bs ++ [b] → Unfinished (frameCfgOf s) bs) :
    ∃ bs b w, body = bs ++ [b] ∧ RxProgress { s with input := rest } bs w ∧
      Host.Core.run Sys2Proof.core (body.length + 1) s = .next (rxByte b w) := by
  obtain ⟨bs, b, rfl⟩ := (List.eq_nil_or_concat' body).resolve_left hne
  obtain ⟨w, hw, hrun⟩ := run_unfinished (body := bs) (rest := .rxByte b :: rest) hf hr hp hroom.of_append
    (by simpa using hi) (hun bs b rfl)
  have hstep := step_rxByte w b rest (hw.fields.faults.trans hf) hw.fields.radio
    (hw.phase.trans_ne (phaseAt_ne_hunt _ _ _)) hw.fields.input
  refine ⟨bs, b, { w with input := rest }, rfl, ⟨hw.fields.setInput rest, hw.phase, hw.unfinished⟩, ?_⟩
  rw [List.length_append, List.length_singleton, Nat.add_right_comm, run_add _ _ _ _ hrun, run_succ _ _ _ hstep]
  rfl

theorem run_finished (hfin : Finished (frameCfgOf s) body) :
    ∃ u, RxAt { s with input := rest } (received (frameCfgOf s) body) u ∧
      Host.Core.run Sys2Proof.core (body.length + 1) s = .next (frameEnd u) := by
  have hlw := lenBytesCount_pos (frameCfgOf s)
  obtain ⟨hover, hlength⟩ := hfin
  have hun (bs : List Byte) (b : Byte) (hbody : body = bs ++ [b]) : Unfinished (frameCfgOf s) bs := by
    subst hbody
    rcases Nat.lt_or_ge bs.length (lenBytesCount (frameCfgOf s)) with hlt | hge
    · exact .inl hlt
    · rw [saidLength_append _ _ _ hge] at hover hlength
      rw [List.length_append, List.length_singleton] at hlength
      exact .inr ⟨hover, by omega⟩
  obtain ⟨bs, b, w, rfl, hw, hrun⟩ := run_last hf hr hp hroom hi (fun h => by simp [h] at hlength; omega) hun
  obtain ⟨u, hat, hbyte⟩ := rxByte_of_finished hw ⟨hover, hlength⟩ hroom
  exact ⟨u, hat, hbyte ▸ hrun⟩

end

/-! ### The end of a frame -/

/-- What a frame that fails leaves (42_packet_engine.md R248). -/
theorem failFrame_signal {s u : State} (h : RxKept s u) (e : Event) (v : Byte) :
    ∃ t, failFrame (signal e (setRxResult v u)) = t ∧ t.radio = .rx ∧ t.rx.phase = .hunt ∧ t.rxFifo = [] ∧
      t.regs.rxResult = v ∧ flagged e t.regs = true ∧ t.err = s.err ∧ t.txFifo = s.txFifo ∧ t.airOut = s.airOut ∧
      t.input = s.input := by
  refine ⟨_, rfl, h.radio, rfl, rfl, ?_, ?_, h.err, h.txFifo, h.airOut, h.input⟩
  · rw [failFrame_eq, signal_regs, setEventFlag_eq]
    rfl
  · rw [failFrame_eq, signal_regs, flagged_setEventFlag, decide_eq_true rfl, Bool.true_or]

/-- The end of a frame by Decode's outcome (42_packet_engine.md R245). -/
def frameEndAs (result : FrameResult) (u : State) : State :=
  match result with
  | .crcError => failFrame (signal .crcError (setRxResult 2#8 u))
  | .filtered => failFrame (signal .rxFiltered (setRxResult 5#8 u))
  | _ => acceptFrame u

/-- The received CRC is the computed one exactly where its bytes are that one's bytes (42_packet_engine.md R247). -/
theorem crcRecv_eq_iff (f : FrameCfg) (v w : BitVec 32) (bs : List Byte) (hv : v.toNat = bigEndian bs)
    (hlen : bs.length = crcCount f) (hw : w.toNat < 2 ^ crcWidth f.crcMode) : v = w ↔ bs = crcBytes f w := by
  rw [two_pow_crcWidth] at hw
  have hbytes : bigEndian (crcBytes f w) = w.toNat := by
    rw [crcBytes, bigEndian_bytesBE, Nat.mod_eq_of_lt hw]
  constructor
  · rintro rfl
    exact bigEndian_inj (by rw [hlen, crcBytes_length]) (hv.symm.trans hbytes.symm)
  · rintro rfl
    exact BitVec.eq_of_toNat_eq (hv.trans hbytes)

theorem received_lengths (f : FrameCfg) (bs : List Byte) (h : Finished f bs) :
    (received f bs).region.length = lenBytesCount f + saidLength f bs ∧
      (received f bs).crc.length = crcCount f ∧
      (received f bs).payload.length + overhead f = saidLength f bs := by
  obtain ⟨hover, hlength⟩ := h
  simp only [received, cutRegion, List.length_take, List.length_drop]
  omega

theorem judgeFrame_received (f : FrameCfg) (bs : List Byte) :
    judgeFrame f (received f bs).region (received f bs).crc =
      if f.crcMode ≠ .none ∧ (received f bs).crc ≠ crcBytes f (crc f (received f bs).region) then .crcError
      else if f.filtEn ∧ accepts f ((received f bs).addr.getD 0x00#8) = false then .filtered
      else .accept (received f bs).payload (received f bs).addr (received f bs).ctrl := rfl

/-- The streaming receiver ends a complete frame as Decode judges it (42_packet_engine.md R250). -/
theorem frameEnd_eq_frameEndAs {s u : State} {bs : List Byte}
    (hfilt : (frameCfgOf s).filtEn = true → (frameCfgOf s).addrEn = true) (hfin : Finished (frameCfgOf s) bs)
    (h : RxAt s (received (frameCfgOf s) bs) u) :
    frameEnd u =
      frameEndAs
        (judgeFrame (frameCfgOf s) (received (frameCfgOf s) bs).region (received (frameCfgOf s) bs).crc) u := by
  obtain ⟨hregion, hcrc, -⟩ := received_lengths _ _ hfin
  have hcheck (hm : (frameCfgOf s).crcMode ≠ .none) :
      u.rx.crcRecv = u.rx.crcAcc ↔
        (received (frameCfgOf s) bs).crc =
          crcBytes (frameCfgOf s) (crc (frameCfgOf s) (received (frameCfgOf s) bs).region) := by
    rw [h.crcAcc, runningCrc_of_crc _ _ hm]
    exact crcRecv_eq_iff _ _ _ _ h.crcRecv hcrc (crc_lt _ _)
  have haddr (hf : (frameCfgOf s).filtEn = true) :
      u.regs.rxAddr = (received (frameCfgOf s) bs).addr.getD 0x00#8 := by
    have hen := hfilt hf
    have hsome : lenBytesCount (frameCfgOf s) < (received (frameCfgOf s) bs).region.length := by
      have hover : 1 ≤ overhead (frameCfgOf s) := by simp [overhead, hen]
      have hsays := hfin.1
      omega
    have hpresent : (received (frameCfgOf s) bs).addr =
        some (received (frameCfgOf s) bs).region[lenBytesCount (frameCfgOf s)] :=
      (if_pos hen).trans (List.getElem?_eq_getElem hsome)
    rw [h.rxAddr, hpresent]
    rfl
  have hends := frameEnd_cases u
  rw [h.frameCfg] at hends
  rcases hends with ⟨hend, hm, hne⟩ | ⟨hgood, hends⟩
  · rw [judgeFrame_received, if_pos ⟨hm, fun hcrc => hne ((hcheck hm).2 hcrc)⟩, hend]
    rfl
  have hnot : ¬ ((frameCfgOf s).crcMode ≠ .none ∧ (received (frameCfgOf s) bs).crc ≠
      crcBytes (frameCfgOf s) (crc (frameCfgOf s) (received (frameCfgOf s) bs).region)) :=
    fun hbad => hbad.2 ((hcheck hbad.1).1 (hgood.resolve_left hbad.1))
  rw [judgeFrame_received, if_neg hnot]
  rcases hends with ⟨hend, hreject⟩ | ⟨hend, haccept⟩
  · have hf : (frameCfgOf s).filtEn = true := by
      rw [accepts] at hreject
      simp_all
    rw [if_pos ⟨hf, haddr hf ▸ hreject⟩, hend]
    rfl
  · rw [if_neg fun hreject => Bool.noConfusion ((haddr hreject.1 ▸ haccept hreject.1).symm.trans hreject.2), hend]
    rfl

/-- Past Decode's length checks the body is complete, and its fields are judged (42_packet_engine.md R227). -/
theorem finished_of_decodeFrame (f : FrameCfg) (body : List Byte) (result : FrameResult)
    (h : decodeFrame f (preamble f ++ syncWord f ++ body) = result) (hne : result ≠ .lengthMismatch) :
    Finished f body ∧ judgeFrame f (received f body).region (received f body).crc = result := by
  rw [decodeFrame_append _ _ _ (by simp), if_pos rfl] at h
  subst h
  unfold decodeBody at hne ⊢
  dsimp only at hne ⊢
  split at hne
  next => exact absurd rfl hne
  next hlw =>
  split at hne
  next => exact absurd rfl hne
  next hover =>
  split at hne
  next => exact absurd rfl hne
  next hlength =>
    rw [if_neg hlw, if_neg hover, if_neg hlength]
    exact ⟨⟨Nat.le_of_not_lt hover, not_not.1 hlength⟩, rfl⟩

theorem acceptFrame_regs (u : State) :
    (∃ v0 v1, (acceptFrame u).regs = { u.regs with rxResult := 1#8, eventFlags0 := v0, eventFlags1 := v1 }) ∧
      ∀ e, flagged e (acceptFrame u).regs =
        (decide (e = .readyReached) || (decide (e = .rxDataReady) || flagged e u.regs)) := by
  refine ⟨?_, fun e => ?_⟩
  · rw [acceptFrame, signal_regs, signal_regs, setEventFlag_eq, setEventFlag_eq]
    exact ⟨_, _, rfl⟩
  · rw [acceptFrame, signal_regs, signal_regs, flagged_setEventFlag, flagged_setEventFlag]
    rfl

/-- Settles O43: the run takes in the whole body, and the end of the frame is Decode's. -/
theorem receiverAcceptsAsDecode : Obligations.ReceiverAcceptsAsDecode := by
  intro s body payload addr ctrl rest hf hr hp hfilt hi hdecode hfits
  obtain ⟨hfin, hjudge⟩ := finished_of_decodeFrame _ _ _ hdecode nofun
  obtain ⟨-, -, hlength⟩ := received_lengths _ _ hfin
  have hfields : (received (frameCfgOf s) body).payload = payload ∧ (received (frameCfgOf s) body).addr = addr ∧
      (received (frameCfgOf s) body).ctrl = ctrl := by
    rw [judgeFrame_received] at hjudge
    split at hjudge
    next => cases hjudge
    next =>
    split at hjudge
    next => cases hjudge
    next => exact FrameResult.accept.inj hjudge
  obtain ⟨rfl, rfl, rfl⟩ := hfields
  obtain ⟨u, hat, hrun⟩ := run_finished hf hr hp (.inr hfits) hi hfin
  have hend := frameEnd_eq_frameEndAs (s := { s with input := rest }) hfilt hfin hat
  have haccept : frameEnd u = acceptFrame u := hend.trans (congrArg (frameEndAs · u) hjudge)
  obtain ⟨⟨v0, v1, hregs⟩, hflags⟩ := acceptFrame_regs u
  have hlw : lenBytesCount (frameCfgOf s) ≤ body.length := by
    have htotal := hfin.2
    omega
  have hlen : (received (frameCfgOf s) body).len.length = lenBytesCount (frameCfgOf s) := List.length_take_of_le hlw
  have hsaid : (pair u.regs.rxLen1 u.regs.rxLen0).toNat =
      (received (frameCfgOf s) body).payload.length + overhead (frameCfgOf s) := by
    rw [hat.rxLen hlen, hlength, saidLength_eq_bigEndian]
  have hflag (e : Event) : flagged e (acceptFrame u).regs = _ := hflags e
  refine ⟨acceptFrame u, haccept ▸ hrun, rfl, rfl, ?_, hat.rxFifo, ?_, ?_, ?_, ?_, ?_, ?_, ?_, hat.err, hat.txFifo,
    hat.airOut, hat.csma, hat.input⟩
  · rw [hregs]
  · rw [hregs]
    exact hsaid
  · rw [hregs]
    exact hat.rxAddr
  · rw [hregs]
    exact hat.rxCtrl
  · exact hflag .rxDataReady
  · exact hflag .readyReached
  · exact (hflag .syncDetected).trans hat.sync
  · exact fun hbelow => (hflag .rxFifoAlmostFull).trans (hat.almostFull hbelow)

/-- Settles O44: the run takes in the whole body, and the end of the frame is Decode's. -/
theorem receiverRejectsAsDecode : Obligations.ReceiverRejectsAsDecode := by
  intro s body rest result hf hr hp hfilt hi hdecode hresult hfits
  obtain ⟨hfin, hjudge⟩ := finished_of_decodeFrame _ _ _ hdecode (by rcases hresult with rfl | rfl <;> nofun)
  obtain ⟨-, -, hlength⟩ := received_lengths _ _ hfin
  have hroom : HasRoom s body := .inr (by have htotal := hfin.2; omega)
  obtain ⟨u, hat, hrun⟩ := run_finished hf hr hp hroom hi hfin
  have hend := (frameEnd_eq_frameEndAs (s := { s with input := rest }) hfilt hfin hat).trans
    (congrArg (frameEndAs · u) hjudge)
  rcases hresult with rfl | rfl
  · obtain ⟨t, hfail, hradio, hphase, hfifo, hcode, hflag, herr, htx, hair, hinput⟩ :=
      failFrame_signal hat.toRxKept .crcError 2#8
    exact ⟨t, hrun.trans (congrArg _ (hend.trans hfail)), hradio, hphase, hfifo, herr, htx, hair, hinput,
      fun _ => ⟨hcode, hflag⟩, nofun⟩
  · obtain ⟨t, hfail, hradio, hphase, hfifo, hcode, hflag, herr, htx, hair, hinput⟩ :=
      failFrame_signal hat.toRxKept .rxFiltered 5#8
    exact ⟨t, hrun.trans (congrArg _ (hend.trans hfail)), hradio, hphase, hfifo, herr, htx, hair, hinput, nofun,
      fun _ => ⟨hcode, hflag⟩⟩

/-- Decode finds a length mismatch in a body that says too little or that is too short (42_packet_engine.md R227). -/
theorem decodeFrame_lengthMismatch (f : FrameCfg) (body : List Byte) (h : saidLength f body < overhead f ∨
    body.length < lenBytesCount f + saidLength f body + crcCount f) :
    decodeFrame f (preamble f ++ syncWord f ++ body) = .lengthMismatch := by
  by_contra hne
  obtain ⟨⟨hover, hlength⟩, -⟩ := finished_of_decodeFrame f body _ rfl hne
  omega

/-- Settles O45: the length field's last byte, or the carrier's loss, ends the frame. -/
theorem receiverLengthMismatchAsDecode : Obligations.ReceiverLengthMismatchAsDecode := by
  rintro s body rest l steps hf hr hp rfl (⟨hlw, hsays, hi, rfl⟩ | ⟨hshort, hover, hfits, hi, rfl⟩)
  · refine ⟨decodeFrame_lengthMismatch _ _ (.inl hsays), ?_⟩
    have hroom : HasRoom s body := .inl (by simp [received, cutRegion]; omega)
    have hpos := lenBytesCount_pos (frameCfgOf s)
    obtain ⟨bs, b, w, rfl, hw, hrun⟩ := run_last hf hr hp hroom hi (fun h => by simp [h] at hlw; omega)
      (fun bs b h => .inl (by rw [hlw, h]; simp))
    have hlast : bs.length + 1 = lenBytesCount (frameCfgOf s) := by simpa using hlw.symm
    obtain ⟨u, hkept, hbyte⟩ := rxByte_of_mismatch hw hlast hsays
    obtain ⟨t, hfail, hradio, hphase, hfifo, hcode, hflag, herr, -, -, hinput⟩ :=
      failFrame_signal hkept .lengthMismatch 3#8
    exact ⟨t, hrun.trans (congrArg _ (hbyte.trans hfail)), hradio, hphase, hfifo, hcode, hflag, herr, hinput⟩
  · refine ⟨decodeFrame_lengthMismatch _ _ (.inr hshort), ?_⟩
    have hroom : HasRoom s body := .inr (by simp [received, cutRegion]; omega)
    have hun : Unfinished (frameCfgOf s) body := by
      rcases Nat.lt_or_ge body.length (lenBytesCount (frameCfgOf s)) with hlt | hge
      · exact .inl hlt
      · exact .inr ⟨hover hge, hshort⟩
    obtain ⟨w, hw, hrun⟩ := run_unfinished (rest := .carrierLost :: rest) hf hr hp hroom hi hun
    have hstep := step_carrierLost w rest (hw.fields.faults.trans hf) hw.fields.radio
      (hw.phase.trans_ne (phaseAt_ne_hunt _ _ _)) hw.fields.input
    obtain ⟨t, hfail, hradio, hphase, hfifo, hcode, hflag, herr, -, -, hinput⟩ :=
      failFrame_signal (hw.fields.setInput rest).toRxKept .lengthMismatch 3#8
    refine ⟨t, ?_, hradio, hphase, hfifo, hcode, hflag, herr, hinput⟩
    rw [run_add (body.length + 1) 1 s w hrun, run_succ 0 _ _ hstep]
    exact congrArg _ hfail

end Sys2Proof.Machine
end

section
/-! PROOFS of the family `43_csma_engine.md`. RSSI samples and the end of a sensing window (O47, O48), the backoff wait and
its ticks (O49, O50), and the length of a run on a permanently busy channel (O51). -/

namespace Sys2Proof.Machine

open Sys2Proof

/-! ## RSSI samples -/

/-- The state once a CSMA sample is counted in: its level, its busy mark, one sample fewer left (43_csma_engine.md
R283). -/
def countSample (v : Byte) (s : State) : State :=
  { s with
    regs := { s.regs with rssiLevel := v }
    csma :=
      { s.csma with
        busySeen := s.csma.busySeen || decide (s.regs.rssiThresh < v)
        samplesLeft := s.csma.samplesLeft - 1 } }

theorem csmaSample_eq (v : Byte) (k : Nat) (s : State) :
    csmaSample v k s =
      if s.csma.samplesLeft = 1 then windowEnd k (countSample v s) else countSample v s := by
  have hlast : s.csma.samplesLeft - 1 = 0 ↔ s.csma.samplesLeft = 1 := sub_eq_zero
  simp only [← hlast]
  rfl

theorem csmaSample_of_not_last (v : Byte) (k : Nat) (s : State) (h : s.csma.samplesLeft ≠ 1) :
    csmaSample v k s = countSample v s := by
  rw [csmaSample_eq, if_neg h]

theorem csmaSample_of_last (v : Byte) (k : Nat) (s : State) (h : s.csma.samplesLeft = 1) :
    csmaSample v k s = windowEnd k (countSample v s) := by
  rw [csmaSample_eq, if_pos h]

theorem inputEnabled_csmaSample_iff (v : Byte) (k : Nat) (s : State) :
    inputEnabled (.csmaSample v k) s = true ↔
      s.radio = .ready ∧ s.csma.active = true ∧ s.csma.phase = .sense := by
  simp [inputEnabled, and_assoc]

theorem inputEnabled_tick_iff (s : State) :
    inputEnabled .tick s = true ↔ s.radio = .ready ∧ s.csma.active = true ∧ s.csma.phase = .backoff := by
  simp [inputEnabled, and_assoc]

theorem step_csmaSample (s : State) (v : Byte) (k : Nat) (rest : List Input) (hf : s.faults = [])
    (hr : s.radio = .ready) (ha : s.csma.active = true) (hp : s.csma.phase = .sense)
    (hi : s.input = .csmaSample v k :: rest) : step s = .next (csmaSample v k { s with input := rest }) :=
  step_of_enabled s (.csmaSample v k) rest hf hi nofun ((inputEnabled_csmaSample_iff v k s).2 ⟨hr, ha, hp⟩)

theorem step_rssiSample (s : State) (v : Byte) (rest : List Input) (hf : s.faults = []) (hr : s.radio = .rx)
    (hi : s.input = .rssiSample v :: rest) : step s = .next (setRssi v { s with input := rest }) :=
  step_of_enabled s (.rssiSample v) rest hf hi nofun (decide_eq_true hr)

/-- Settles O47: a CSMA sample before the last of its window, and a sample in RX. -/
theorem rssiSamples : Obligations.RssiSamples := by
  refine fun s v k rest hf => ⟨fun hr ha hp hleft hi => ?_, fun hr hi => ?_⟩
  · rw [step_csmaSample s v k rest hf hr ha hp hi, csmaSample_of_not_last v k { s with input := rest } hleft]
    rfl
  · exact step_rssiSample s v rest hf hr hi

/-! ## The end of a sensing window -/

theorem windowEnd_of_idle (k : Nat) (s : State) (h : s.csma.busySeen = false) : windowEnd k s = channelIdle s := by
  rw [windowEnd, if_pos h]

theorem windowEnd_of_not_persistent (k : Nat) (s : State) (h : s.csma.busySeen = true)
    (hp : csmaPersist s.regs = false) : windowEnd k s = channelBusy s := by
  rw [windowEnd, if_neg (ne_false_of_eq_true h), if_pos hp]

theorem windowEnd_of_last_attempt (k : Nat) (s : State) (h : s.csma.busySeen = true)
    (hp : csmaPersist s.regs = true) (hlast : s.regs.csmaAttempts = s.regs.csmaMaxRetry) :
    windowEnd k s = maxRetries s := by
  rw [windowEnd, if_neg (ne_false_of_eq_true h), if_neg (ne_false_of_eq_true hp), if_pos hlast]

theorem windowEnd_of_attempts_left (k : Nat) (s : State) (h : s.csma.busySeen = true)
    (hp : csmaPersist s.regs = true) (hleft : s.regs.csmaAttempts ≠ s.regs.csmaMaxRetry) :
    windowEnd k s = startBackoff k s := by
  rw [windowEnd, if_neg (ne_false_of_eq_true h), if_neg (ne_false_of_eq_true hp), if_neg hleft]

/-- Settles O48: the last sample is counted in, then `WindowEnd` takes the one of its four ends that applies. -/
theorem sensingWindowEnd : Obligations.SensingWindowEnd := by
  rintro s v k rest busySeen u hf hr ha hp hleft hi rfl hu
  have hcounted : countSample v { s with input := rest } = u := by
    rw [hu, countSample, hleft]
    rfl
  refine ⟨windowEnd k u, ?_, fun hidle => ?_, fun hbusy hpersist => ?_, fun hbusy hpersist hlast => ?_,
    fun hbusy hpersist hmore => ?_⟩
  · rw [step_csmaSample s v k rest hf hr ha hp hi, csmaSample_of_last v k { s with input := rest } hleft, hcounted]
  · exact windowEnd_of_idle k u (by rw [hu, hidle])
  · exact windowEnd_of_not_persistent k u (by rw [hu, hbusy]) (by rw [hu]; exact hpersist)
  · exact windowEnd_of_last_attempt k u (by rw [hu, hbusy]) (by rw [hu]; exact hpersist) (by rw [hu]; exact hlast)
  · exact windowEnd_of_attempts_left k u (by rw [hu, hbusy]) (by rw [hu]; exact hpersist) (by rw [hu]; exact hmore)

/-! ## The backoff wait -/

theorem boUnit_eq (g : Regs) : boUnit g = 256 * g.boUnit1.toNat + g.boUnit0.toNat :=
  pair_toNat g.boUnit1 g.boUnit0

/-- Settles O49: the draw is the remainder of `k` by `2 ^ e`, which is `k` itself inside the range. -/
theorem backoffWaitIsBounded : Obligations.BackoffWaitIsBounded := by
  refine ⟨fun s => boUnit_eq s.regs, ?_⟩
  rintro s e rfl k
  refine ⟨k % 2 ^ backoffExp s, Nat.mod_lt k (Nat.two_pow_pos _), fun hk => Nat.mod_eq_of_lt hk, ?_⟩
  unfold startBackoff
  dsimp only
  split
  next hzero =>
    rw [hzero]
    rfl
  next => rfl

theorem csmaTick_of_last (s : State) (h : s.csma.ticksLeft ≤ 1) :
    csmaTick s = beginAttempt { s with csma := { s.csma with ticksLeft := 0 } } := by
  have hzero : s.csma.ticksLeft - 1 = 0 := by omega
  simp only [csmaTick, hzero, if_true, backoffEnd]

theorem csmaTick_of_not_last (s : State) (h : 1 < s.csma.ticksLeft) :
    csmaTick s = { s with csma := { s.csma with ticksLeft := s.csma.ticksLeft - 1 } } := by
  have hpos : s.csma.ticksLeft - 1 ≠ 0 := by omega
  simp only [csmaTick, hpos, if_false]

theorem step_tick (s : State) (rest : List Input) (hf : s.faults = []) (hr : s.radio = .ready)
    (ha : s.csma.active = true) (hp : s.csma.phase = .backoff) (hi : s.input = .tick :: rest) :
    step s = .next (csmaTick { s with input := rest }) :=
  step_of_enabled s .tick rest hf hi nofun ((inputEnabled_tick_iff s).2 ⟨hr, ha, hp⟩)

/-- Settles O50: the last tick of the wait, and a tick before it. -/
theorem tickCountsDown : Obligations.TickCountsDown := by
  intro s rest hf hr ha hp hleft hi
  rw [step_tick s rest hf hr ha hp hi]
  split
  next hlast =>
    rw [csmaTick_of_last { s with input := rest } hlast.le]
    rfl
  next hlast =>
    rw [csmaTick_of_not_last { s with input := rest } (by dsimp only; omega)]

/-! ## A permanently busy channel -/

/-- What a CSMA run keeps while its channel is busy: RADIO_STATE, the frame to send, AIR_OUT and the registers that BUSY
locks (43_csma_engine.md R292, 10_state.md R33). -/
structure CsmaKeeps (s t : State) : Prop where
  radio : t.radio = s.radio
  airOut : t.airOut = s.airOut
  txFifo : t.txFifo = s.txFifo
  locked : lockedRegs t.regs = lockedRegs s.regs

theorem CsmaKeeps.of_eq {s t : State} (h : t = { s with regs := t.regs, csma := t.csma })
    (hregs : lockedRegs t.regs = lockedRegs s.regs) : CsmaKeeps s t := by
  rw [h]
  exact ⟨rfl, rfl, rfl, hregs⟩

theorem CsmaKeeps.trans {s t u : State} (h : CsmaKeeps s t) (h' : CsmaKeeps t u) : CsmaKeeps s u where
  radio := h'.radio.trans h.radio
  airOut := h'.airOut.trans h.airOut
  txFifo := h'.txFifo.trans h.txFifo
  locked := h'.locked.trans h.locked

section

variable {s t : State} (h : CsmaKeeps s t)
include h

theorem CsmaKeeps.csmaPersist_eq : csmaPersist t.regs = csmaPersist s.regs :=
  congrArg (·.getLsbD 1) (Option.some.inj (congrArg (·[14]?) h.locked))

theorem CsmaKeeps.csmaMaxRetry_eq : t.regs.csmaMaxRetry = s.regs.csmaMaxRetry :=
  Option.some.inj (congrArg (·[16]?) h.locked)

theorem CsmaKeeps.rssiThresh_eq : t.regs.rssiThresh = s.regs.rssiThresh :=
  Option.some.inj (congrArg (·[17]?) h.locked)

theorem CsmaKeeps.senseWindow_eq : t.regs.senseWindow = s.regs.senseWindow :=
  Option.some.inj (congrArg (·[20]?) h.locked)

end

theorem csmaKeeps_startBackoff (k : Nat) (s : State) : CsmaKeeps s (startBackoff k s) := by
  obtain ⟨d, -, ⟨-, h⟩ | ⟨-, h⟩⟩ := startBackoff_cases k s <;> rw [h] <;> exact .of_eq rfl rfl

theorem csmaKeeps_maxRetries (s : State) : CsmaKeeps s (maxRetries s) where
  radio := rfl
  airOut := rfl
  txFifo := rfl
  locked := setEventFlag_lockedRegs _ _

theorem csmaKeeps_csmaTick (s : State) : CsmaKeeps s (csmaTick s) := by
  rcases Nat.lt_or_ge 1 s.csma.ticksLeft with h | h
  · rw [csmaTick_of_not_last s h]
    exact .of_eq rfl rfl
  · rw [csmaTick_of_last s h]
    exact .of_eq rfl rfl

/-- An active run between two windows: the `n` samples so far make up all the windows of the attempts so far. -/
structure BetweenWindows (n : Nat) (t : State) : Prop where
  active : t.csma.active = true
  result : t.regs.csmaResult = 0#8
  samples : n = t.regs.csmaAttempts.toNat * t.regs.senseWindow.toNat

/-- Where a persistent run on a busy channel stands after `n` samples (43_csma_engine.md R292): in the window of its
last attempt, in a wait with an attempt left, or ended after all its windows. -/
inductive BusyRunAt (n : Nat) (t : State) : Prop
  | sensing (active : t.csma.active = true) (phase : t.csma.phase = .sense) (result : t.regs.csmaResult = 0#8)
      (attempts : t.regs.csmaAttempts.toNat ≤ t.regs.csmaMaxRetry.toNat) (left : 1 ≤ t.csma.samplesLeft.toNat)
      (samples : n + t.csma.samplesLeft.toNat = t.regs.csmaAttempts.toNat * t.regs.senseWindow.toNat)
  | waiting (phase : t.csma.phase = .backoff) (attempts : t.regs.csmaAttempts.toNat < t.regs.csmaMaxRetry.toNat)
      (between : BetweenWindows n t)
  | ended (inactive : t.csma.active = false) (result : t.regs.csmaResult = 3#8)
      (attempts : t.regs.csmaAttempts = t.regs.csmaMaxRetry)
      (samples : n = t.regs.csmaMaxRetry.toNat * t.regs.senseWindow.toNat)

section

variable {n : Nat} {t : State}

/-- The count of attempts cannot wrap around below `CSMA_MAX_RETRY`. -/
theorem csmaAttempts_succ_toNat (h : t.regs.csmaAttempts.toNat < t.regs.csmaMaxRetry.toNat) :
    (t.regs.csmaAttempts + 1).toNat = t.regs.csmaAttempts.toNat + 1 := by
  have hbound := t.regs.csmaMaxRetry.isLt
  exact BitVec.toNat_add_of_lt (y := 1#8) (by show _ + 1 < 2 ^ 8; omega)

theorem BetweenWindows.beginAttempt (h : BetweenWindows n t) (hwindow : 1 ≤ t.regs.senseWindow.toNat)
    (hattempts : t.regs.csmaAttempts.toNat < t.regs.csmaMaxRetry.toNat) : BusyRunAt n (beginAttempt t) := by
  have hsucc := csmaAttempts_succ_toNat hattempts
  refine .sensing h.active rfl h.result ?_ hwindow ?_
  · exact hsucc.trans_le hattempts
  · calc n + t.regs.senseWindow.toNat
        = (t.regs.csmaAttempts.toNat + 1) * t.regs.senseWindow.toNat := by rw [h.samples, Nat.succ_mul]
      _ = (t.regs.csmaAttempts + 1).toNat * t.regs.senseWindow.toNat := by rw [hsucc]

theorem BetweenWindows.startBackoff (h : BetweenWindows n t) (k : Nat) (hwindow : 1 ≤ t.regs.senseWindow.toNat)
    (hattempts : t.regs.csmaAttempts.toNat < t.regs.csmaMaxRetry.toNat) : BusyRunAt n (startBackoff k t) := by
  obtain ⟨d, -, ⟨-, heq⟩ | ⟨-, heq⟩⟩ := startBackoff_cases k t <;> rw [heq]
  · exact BetweenWindows.beginAttempt ⟨h.active, h.result, h.samples⟩ hwindow hattempts
  · exact .waiting rfl hattempts ⟨h.active, h.result, h.samples⟩

theorem BetweenWindows.maxRetries (h : BetweenWindows n t)
    (hlast : t.regs.csmaAttempts = t.regs.csmaMaxRetry) : BusyRunAt n (maxRetries t) :=
  .ended rfl rfl hlast (by rw [h.samples, hlast]; rfl)

/-- A busy window of a persistent run: the last attempt ends it, any other backs off (43_csma_engine.md R283, R289). -/
theorem BetweenWindows.windowEnd (h : BetweenWindows n t) (k : Nat) (hwindow : 1 ≤ t.regs.senseWindow.toNat)
    (hbusy : t.csma.busySeen = true) (hpersist : csmaPersist t.regs = true)
    (hattempts : t.regs.csmaAttempts.toNat ≤ t.regs.csmaMaxRetry.toNat) :
    BusyRunAt n (windowEnd k t) ∧ CsmaKeeps t (windowEnd k t) := by
  by_cases hlast : t.regs.csmaAttempts = t.regs.csmaMaxRetry
  · rw [windowEnd_of_last_attempt k t hbusy hpersist hlast]
    exact ⟨h.maxRetries hlast, csmaKeeps_maxRetries t⟩
  · rw [windowEnd_of_attempts_left k t hbusy hpersist hlast]
    have hmore := hattempts.lt_of_ne (mt BitVec.eq_of_toNat_eq hlast)
    exact ⟨h.startBackoff k hwindow hmore, csmaKeeps_startBackoff k t⟩

/-- A sample above the threshold takes the run one sample on. -/
theorem BusyRunAt.csmaSample (h : BusyRunAt n t) (v : Byte) (k : Nat) (hwindow : 1 ≤ t.regs.senseWindow.toNat)
    (hpersist : csmaPersist t.regs = true) (hv : t.regs.rssiThresh < v)
    (hen : inputEnabled (.csmaSample v k) t = true) :
    BusyRunAt (n + 1) (csmaSample v k t) ∧ CsmaKeeps t (csmaSample v k t) := by
  obtain ⟨-, hactive, hsense⟩ := (inputEnabled_csmaSample_iff v k t).1 hen
  have hcount : CsmaKeeps t (countSample v t) := .of_eq rfl rfl
  have hbusy : (countSample v t).csma.busySeen = true := by simp [countSample, hv]
  cases h with
  | sensing _ _ hresult hattempts hleft hsamples =>
    by_cases hlast : t.csma.samplesLeft = 1
    · rw [csmaSample_of_last v k t hlast]
      have hbetween : BetweenWindows (n + 1) (countSample v t) := ⟨hactive, hresult, by rwa [hlast] at hsamples⟩
      obtain ⟨hat, hkeeps⟩ := hbetween.windowEnd k hwindow hbusy hpersist hattempts
      exact ⟨hat, hcount.trans hkeeps⟩
    · rw [csmaSample_of_not_last v k t hlast]
      have hmore : 1 < t.csma.samplesLeft.toNat := hleft.lt_of_ne' (mt (BitVec.eq_of_toNat_eq (y := 1#8)) hlast)
      have hpred : (t.csma.samplesLeft - 1).toNat = t.csma.samplesLeft.toNat - 1 :=
        BitVec.toNat_sub_of_le (y := 1#8) hleft
      refine ⟨.sensing hactive hsense hresult hattempts ?_ ?_, hcount⟩
      · show 1 ≤ (t.csma.samplesLeft - 1).toNat
        omega
      · show n + 1 + (t.csma.samplesLeft - 1).toNat = t.regs.csmaAttempts.toNat * t.regs.senseWindow.toNat
        omega
  | waiting hphase => exact absurd (hphase.symm.trans hsense) nofun
  | ended hinactive => exact absurd (hinactive.symm.trans hactive) nofun

/-- A tick takes no sample: the run waits on, or begins its next window. -/
theorem BusyRunAt.csmaTick (h : BusyRunAt n t) (hwindow : 1 ≤ t.regs.senseWindow.toNat)
    (hen : inputEnabled .tick t = true) : BusyRunAt n (csmaTick t) := by
  obtain ⟨-, hactive, hbackoff⟩ := (inputEnabled_tick_iff t).1 hen
  cases h with
  | sensing _ hphase => exact absurd (hphase.symm.trans hbackoff) nofun
  | waiting _ hattempts h =>
    rcases Nat.lt_or_ge 1 t.csma.ticksLeft with hticks | hticks
    · rw [csmaTick_of_not_last t hticks]
      exact .waiting hbackoff hattempts ⟨hactive, h.result, h.samples⟩
    · rw [csmaTick_of_last t hticks]
      exact BetweenWindows.beginAttempt ⟨hactive, h.result, h.samples⟩ hwindow hattempts
  | ended hinactive => exact absurd (hinactive.symm.trans hactive) nofun

end

/-- Enabled busy samples and ticks take a persistent run on by exactly the samples among them. -/
theorem BusyRunAt.runEnabled {s t : State} {n : Nat} {es : List Input} (h : BusyRunAt n s)
    (hwindow : 1 ≤ s.regs.senseWindow.toNat) (hpersist : csmaPersist s.regs = true)
    (hbusy : es.all (busyChannelInput s.regs.rssiThresh) = true) (hrun : runEnabled es s = some t) :
    BusyRunAt (n + (es.filter isCsmaSample).length) t ∧ CsmaKeeps s t := by
  induction es generalizing s n with
  | nil =>
    obtain rfl : s = t := Option.some.inj hrun
    exact ⟨h, .of_eq rfl rfl⟩
  | cons e es ih =>
    obtain ⟨he, hes⟩ : busyChannelInput s.regs.rssiThresh e = true ∧
        es.all (busyChannelInput s.regs.rssiThresh) = true := by simpa using hbusy
    obtain ⟨hen, hrest⟩ : inputEnabled e s = true ∧ Machine.runEnabled es (inputEffect e s) = some t := by
      simpa [Machine.runEnabled] using hrun
    have hgoes {m : Nat} (hat : BusyRunAt m (inputEffect e s)) (hkeeps : CsmaKeeps s (inputEffect e s)) :
        BusyRunAt (m + (es.filter isCsmaSample).length) t ∧ CsmaKeeps s t := by
      obtain ⟨hend, hkeeps'⟩ := ih hat (by rwa [hkeeps.senseWindow_eq]) (by rwa [hkeeps.csmaPersist_eq])
        (by rwa [hkeeps.rssiThresh_eq]) hrest
      exact ⟨hend, hkeeps.trans hkeeps'⟩
    cases e with
    | csmaSample v k =>
      obtain ⟨hat, hkeeps⟩ := h.csmaSample v k hwindow hpersist (of_decide_eq_true he) hen
      rw [List.filter_cons_of_pos rfl, List.length_cons, Nat.add_comm _ 1, ← Nat.add_assoc]
      exact hgoes hat hkeeps
    | tick =>
      rw [List.filter_cons_of_neg Bool.false_ne_true]
      exact hgoes (h.csmaTick hwindow hen) (csmaKeeps_csmaTick s)
    | _ => exact absurd he Bool.false_ne_true

/-- The legal values of `CSMA_MAX_RETRY` and `SENSE_WINDOW` are at least 1 (40_bus_transactions.md R142). -/
theorem csmaLimits_pos {s : State} (h : RegsInv s) :
    1 ≤ s.regs.csmaMaxRetry.toNat ∧ 1 ≤ s.regs.senseWindow.toNat := by
  obtain ⟨hplain, -⟩ := h
  have hlegal (r : Reg) (hr : r ∈ plainRwRegs) : regLegal s.cfg.fifoCap r (regGet s.regs r) = true :=
    (Bool.and_eq_true_iff.1 (List.all_eq_true.1 hplain r hr)).2
  exact ⟨of_decide_eq_true (hlegal .csmaMaxRetry (by decide)), of_decide_eq_true (hlegal .senseWindow (by decide))⟩

/-- A run begins between windows, with no attempt and no sample behind it (43_csma_engine.md R280, R282). -/
theorem busyRunAt_startCsma {s : State} (h : RegsInv s) : BusyRunAt 0 (startCsma s) := by
  obtain ⟨hretry, hwindow⟩ := csmaLimits_pos h
  exact BetweenWindows.beginAttempt ⟨rfl, rfl, (Nat.zero_mul _).symm⟩ hwindow hretry

/-- Settles O51: the samples of a run are counted along its windows, so the run has ended exactly when they make up
all. -/
theorem busyChannelEndsAfterExactlyMaxRetryWindows : Obligations.BusyChannelEndsAfterExactlyMaxRetryWindows := by
  intro s t es hidle hregs hpersist hbusy hrun
  obtain ⟨hready, -⟩ := (readyIdle_iff s).1 hidle
  obtain ⟨-, hwindow⟩ := csmaLimits_pos hregs
  obtain ⟨hat, hran⟩ := (busyRunAt_startCsma hregs).runEnabled hwindow hpersist hbusy hrun
  have hstart : CsmaKeeps s (startCsma s) := .of_eq rfl rfl
  have hkeeps : CsmaKeeps s t := hstart.trans hran
  rw [Nat.zero_add] at hat
  rw [← hkeeps.csmaMaxRetry_eq, ← hkeeps.senseWindow_eq]
  rw [← hkeeps.senseWindow_eq] at hwindow
  refine ⟨hkeeps.radio.trans hready, hkeeps.airOut, hkeeps.txFifo, ?_⟩
  cases hat with
  | sensing hactive _ hresult hattempts hleft hsamples =>
    have hall := Nat.mul_le_mul_right t.regs.senseWindow.toNat hattempts
    exact ⟨fun _ => ⟨hresult, hattempts, by omega⟩, fun hover => absurd (hactive.symm.trans hover) nofun⟩
  | waiting _ hattempts h =>
    have hall := Nat.mul_lt_mul_of_pos_right hattempts hwindow
    exact ⟨fun _ => ⟨h.result, hattempts.le, h.samples ▸ hall⟩,
      fun hover => absurd (h.active.symm.trans hover) nofun⟩
  | ended hinactive hresult hattempts hsamples =>
    exact ⟨fun hactive => absurd (hinactive.symm.trans hactive) nofun, fun _ => ⟨hresult, hattempts, hsamples⟩⟩

end Sys2Proof.Machine
end

section
/-! PROOFS of the family `44_event_routing.md`. What `Signal(ev)` does to the flag registers and to PIN_TRACE (O34). -/
namespace Sys2Proof.Machine

open Sys2Proof

/-! ## The flag registers, bit by bit -/

/-- Selectors 1 to 8 are the bits of `EVENT_FLAGS0` (44_event_routing.md R322); no selector above them reaches it. -/
theorem setEventFlag_eventFlags0_getLsbD (sel j : Nat) (g : Regs) (hsel : 1 ≤ sel) (hj : j < 8) :
    (setEventFlag sel g).eventFlags0.getLsbD j = (g.eventFlags0.getLsbD j || decide (sel = j + 1)) := by
  rw [setEventFlag_eq]
  by_cases hlow : sel ≤ 8
  · have hbit : j = sel - 1 ↔ sel = j + 1 := by omega
    simp only [hlow, if_true, getLsbD_or_one_shiftLeft _ _ _ hj, hbit, Bool.or_comm]
  · have hother : sel ≠ j + 1 := by omega
    simp [hlow, hother]

/-- Selectors from 9 on are the bits of `EVENT_FLAGS1` (44_event_routing.md R322); none below them reaches it. -/
theorem setEventFlag_eventFlags1_getLsbD (sel j : Nat) (g : Regs) (hj : j < 8) :
    (setEventFlag sel g).eventFlags1.getLsbD j = (g.eventFlags1.getLsbD j || decide (sel = j + 9)) := by
  rw [setEventFlag_eq]
  by_cases hlow : sel ≤ 8
  · have hother : sel ≠ j + 9 := by omega
    simp [hlow, hother]
  · have hbit : j = sel - 9 ↔ sel = j + 9 := by omega
    simp only [hlow, if_false, getLsbD_or_one_shiftLeft _ _ _ hj, hbit, Bool.or_comm]

/-! ## The pulses -/

/-- Pin `n` is enabled and bound to the selector (44_event_routing.md R322). -/
def pinBound (sel : Nat) (vs : List Byte) (n : Nat) : Bool :=
  gpioEn (vs.getD n 0x00#8) && gpioSel (vs.getD n 0x00#8) == sel

/-- `boundPins`, which counts the pins from `n` on, names the positions of the list at which a pin is bound. -/
theorem boundPins_eq_filter_range (sel n : Nat) (vs : List Byte) :
    boundPins sel n vs = ((List.range vs.length).filter (pinBound sel vs)).map (n + ·) := by
  induction vs generalizing n with
  | nil => rfl
  | cons v vs ih =>
    have htail : pinBound sel (v :: vs) ∘ Nat.succ = pinBound sel vs := rfl
    have hshift : (n + ·) ∘ Nat.succ = (n + 1 + ·) := funext fun k => Nat.add_right_comm n k 1
    have hhead : pinBound sel (v :: vs) 0 = true ↔ gpioEn v ∧ gpioSel v = sel := by simp [pinBound]
    rw [boundPins, ih, List.length_cons, List.range_succ_eq_map, List.filter_cons, List.filter_map, htail]
    by_cases hv : gpioEn v ∧ gpioSel v = sel
    · rw [if_pos hv, if_pos (hhead.2 hv), List.map_cons, List.map_map, hshift]
      rfl
    · rw [if_neg hv, if_neg (mt hhead.1 hv), List.map_map, hshift]

/-- `Signal` meets the pins from index 0 on, in increasing index. -/
theorem signal_pinTrace_eq_filter_range (e : Event) (s : State) :
    (signal e s).pinTrace =
      s.pinTrace ++ (List.range s.regs.gpioCfg.length).filter (pinBound (eventSel e) s.regs.gpioCfg) := by
  simp [boundPins_eq_filter_range]

/-! ## The event -/

/-- The flag registers and PIN_TRACE are all that an event reaches (44_event_routing.md R322). -/
theorem signal_frame (e : Event) (s : State) :
    signal e s =
      { s with
        regs :=
          { s.regs with
            eventFlags0 := (signal e s).regs.eventFlags0, eventFlags1 := (signal e s).regs.eventFlags1 }
        pinTrace := (signal e s).pinTrace } := by
  rw [signal, setEventFlag_eq]

/-- Settles O34: each register's bits by the event's selector, and the walk over the pins as a filter of their
indices. -/
theorem eventSetsFlagAndPulsesBoundPins : Obligations.EventSetsFlagAndPulsesBoundPins := by
  refine ⟨fun e s => ⟨fun j hj => ?_, signal_pinTrace_eq_filter_range e s, signal_frame e s⟩, ?_⟩
  · obtain ⟨hsel, -⟩ := eventSel_bounds e
    rw [signal_regs]
    exact ⟨setEventFlag_eventFlags0_getLsbD _ _ _ hsel hj, setEventFlag_eventFlags1_getLsbD _ _ _ hj⟩
  · decide

end Sys2Proof.Machine
end

section
/-! PROOFS of the family `60_exceptions.md`. A faulted run goes no further (O6), which transactions fault it (O59), and
the error flags through a step (O57). -/

namespace Sys2Proof.Machine

open Sys2Proof

/-! ## A faulted run -/

theorem step_of_faulted (s : State) (info : HostFault) (index : Nat) (more : List (HostFault × Nat))
    (h : s.faults = (info, index) :: more) : step s = .fault (.hostFaulted info index) := by
  simp only [step, stuckFault, h]

/-- Every instruction is a transaction, which asks for the records first (40_bus_transactions.md R140). -/
theorem exec_of_faulted (i : Instr) (s : State) (info : HostFault) (index : Nat) (more : List (HostFault × Nat))
    (h : s.faults = (info, index) :: more) : exec i s = .fault (.hostFaulted info index) := by
  have htransact (off on : State → State) (n : Nat) : transact off n on s = .fault (.hostFaulted info index) :=
    transact_of_faulted off on n s info index more h
  cases i <;> exact htransact _ _ _

/-- Settles O6: the step and each instruction ask for the records before they do anything. -/
theorem faultedRunIsStuck : Obligations.FaultedRunIsStuck :=
  fun s info index more h => ⟨step_of_faulted s info index more h, fun i => exec_of_faulted i s info index more h⟩

/-! ## What a transaction does, by its bytes -/

/-- `Performed`, with the bytes on the bus where data is written or read (30_encoding.md R104, R105). -/
inductive Transacted (bytes : Bytes) (i : Instr) (s : State) : State → Prop
  | write (hp : s.powered = true) (a : Byte) (d : Bytes) (hd : d ≠ []) (hbytes : bytes = 0x00#8 :: a :: d) :
    Transacted bytes i s (memWrite a d s)
  | read (hp : s.powered = true) (a : Byte) (d : Bytes) (hd : d ≠ []) (hbytes : bytes = 0x01#8 :: a :: d) :
    Transacted bytes i s (memRead a d.length s)
  | command (hp : s.powered = true) (n : Nat) : Transacted bytes i s (command (commandEffect i) n s)
  | unpowered (hp : s.powered = false) (n : Nat) : Transacted bytes i s (unpowered (offEffect i) n s)

/-- The bytes of a read or a write are its encoding, which has one data byte at least (30_encoding.md R104, R105). -/
theorem transacted_of_exec (m : StrobeCode) (bytes : Bytes) (i : Instr) (s t : State) (hdec : decode m bytes = .ok i)
    (h : exec i s = .next t) : Transacted bytes i s t := by
  obtain ⟨rfl, hwf⟩ := encodeOfDecodeIsIdentity m bytes i hdec
  have hcases {on : State → State} {n : Nat} (hon : s.powered = true → Transacted (encode m i) i s (on s))
      (ht : transact (offEffect i) n on s = .next t) : Transacted (encode m i) i s t := by
    obtain ⟨-, rfl⟩ := (transact_next _ on n s t).1 ht
    cases hp : s.powered with
    | true => exact hon hp
    | false => exact .unpowered hp n
  cases i with
  | fifoWrite data =>
    have hd : data ≠ [] := List.length_pos_iff.1 (of_decide_eq_true hwf)
    exact hcases (.write · fifoPort data hd rfl) h
  | write addr datum => exact hcases (.write · addr [datum] (List.cons_ne_nil _ _) rfl) h
  | burstWrite addr data =>
    have hlen : 2 ≤ data.length := of_decide_eq_true (Bool.and_eq_true_iff.1 hwf).2
    exact hcases (.write · addr data (List.length_pos_iff.1 (by omega)) rfl) h
  | fifoRead dummies =>
    have hd : dummies ≠ [] := List.length_pos_iff.1 (of_decide_eq_true hwf)
    exact hcases (.read · fifoPort dummies hd rfl) h
  | read addr dummy => exact hcases (.read · addr [dummy] (List.cons_ne_nil _ _) rfl) h
  | burstRead addr dummies =>
    have hlen : 2 ≤ dummies.length := of_decide_eq_true (Bool.and_eq_true_iff.1 hwf).2
    exact hcases (.read · addr dummies (List.length_pos_iff.1 (by omega)) rfl) h
  | _ => exact hcases (.command · _) h

/-! ## Which transactions fault -/

/-- Bytes below the port, or bytes for which the TX FIFO has room, fault no run (20_memory.md R78). -/
theorem writeBytes_faults_of_room (a : Byte) (d : Bytes) (s : State) (hfit : BurstFits a d.length s)
    (hroom : a = 0xFF#8 → s.txFifo.length + d.length ≤ s.cfg.fifoCap) : (writeBytes a d s).faults = s.faults := by
  rcases hfit.2 with ha | hend
  · have happend := writeBytes_fifoPort_append d [] s (hroom ha)
    rw [List.append_nil] at happend
    rw [show a = fifoPort from ha, happend]
    rfl
  · rw [writeBytes_burst_frame d a s hend]

/-- Bytes below the port, or bytes that the RX FIFO holds, fault no run (20_memory.md R78). -/
theorem readBytes_faults_of_contents (a : Byte) (n : Nat) (s : State) (hfit : BurstFits a n s)
    (hheld : a = 0xFF#8 → n ≤ s.rxFifo.length) : (readBytes a n s).2.faults = s.faults := by
  rcases hfit.2 with ha | hend
  · have htake : (s.rxFifo.take n).length = n := List.length_take_of_le (hheld ha)
    have happend := readBytes_fifoPort_append _ _ 0 s (List.take_append_drop n s.rxFifo).symm
    rw [Nat.add_zero, htake] at happend
    rw [show a = fifoPort from ha, happend]
    rfl
  · rw [readBytes_burst_frame n a s hend]
    rfl

/-- A write faults by its burst bounds or by the room of the TX FIFO (20_memory.md R78, R79). -/
theorem broken_of_memWrite_faults (a : Byte) (d : Bytes) (s : State) (hf : s.faults = [])
    (h : (memWrite a d s).faults ≠ []) :
    ¬ BurstFits a d.length s ∨ a = 0xFF#8 ∧ ¬ s.txFifo.length + d.length ≤ s.cfg.fifoCap := by
  by_contra hkept
  rw [not_or, not_not, not_and, not_not] at hkept
  obtain ⟨hfit, hroom⟩ := hkept
  rw [memWrite_of_fits a d s hfit] at h
  exact h ((writeBytes_faults_of_room a d s hfit hroom).trans hf)

/-- A read faults by its burst bounds or by the contents of the RX FIFO (20_memory.md R78, R79). -/
theorem broken_of_memRead_faults (a : Byte) (n : Nat) (s : State) (hf : s.faults = [])
    (h : (memRead a n s).faults ≠ []) : ¬ BurstFits a n s ∨ a = 0xFF#8 ∧ s.rxFifo.length < n := by
  by_contra hkept
  rw [not_or, not_not, not_and, not_lt] at hkept
  obtain ⟨hfit, hheld⟩ := hkept
  rw [memRead_of_fits a n s hfit] at h
  exact h ((readBytes_faults_of_contents a n s hfit hheld).trans hf)

theorem commandEffect_faults (i : Instr) (s : State) : (commandEffect i s).faults = s.faults := by
  cases i with
  | sres tail => rfl
  | _ => exact (evolves_commandEffect _ s (by simp)).faults

theorem offEffect_faults (i : Instr) (s : State) : (offEffect i s).faults = s.faults := by
  cases i <;> rfl

/-- The transaction `bytes` writes or reads data against the burst bounds, the room of the TX FIFO or the contents of the
RX FIFO (20_memory.md R78, R79). -/
def BreaksDuty (bytes : Bytes) (s : State) : Prop :=
  ∃ a d, d ≠ [] ∧
    (bytes = 0x00#8 :: a :: d ∧
        (¬ BurstFits a d.length s ∨ a = 0xFF#8 ∧ ¬ s.txFifo.length + d.length ≤ s.cfg.fifoCap) ∨
      bytes = 0x01#8 :: a :: d ∧ (¬ BurstFits a d.length s ∨ a = 0xFF#8 ∧ s.rxFifo.length < d.length))

theorem Transacted.breaksDuty {bytes : Bytes} {i : Instr} {s t : State} (h : Transacted bytes i s t)
    (hf : s.faults = []) (hfaulted : t.faults ≠ []) : s.powered = true ∧ BreaksDuty bytes s := by
  cases h with
  | write hp a d hd hbytes => exact ⟨hp, a, d, hd, .inl ⟨hbytes, broken_of_memWrite_faults a d s hf hfaulted⟩⟩
  | read hp a d hd hbytes => exact ⟨hp, a, d, hd, .inr ⟨hbytes, broken_of_memRead_faults a d.length s hf hfaulted⟩⟩
  | command hp n => exact absurd ((commandEffect_faults i s).trans hf) hfaulted
  | unpowered hp n => exact absurd ((offEffect_faults i s).trans hf) hfaulted

/-- Settles O59: of the ways a step goes on, only the bytes of a powered write or read can raise a fault. -/
theorem onlyBrokenHostDutiesFault : Obligations.OnlyBrokenHostDutiesFault := by
  intro s t ht hfaulted
  obtain ⟨hf, ⟨-, rfl⟩ | ⟨e, rest, hi, ⟨bytes, i, rfl, hd, hexec⟩ | ⟨bytes, -, -, rfl⟩ | ⟨-, rfl⟩⟩⟩ := step_cases s t ht
  · exact absurd hf hfaulted
  · have htransacted := transacted_of_exec s.cfg.strobeCode bytes i { s with input := rest } t hd hexec
    obtain ⟨hp, a, d, hbroken⟩ := htransacted.breaksDuty hf hfaulted
    exact ⟨hp, bytes, rest, a, d, hi, hbroken⟩
  · exact absurd hf hfaulted
  · exact absurd ((evolves_envStep e { s with input := rest }).faults.trans hf) hfaulted

/-! ## The error flags -/

/-- Each error flag that is set in `s` is set in `t` (60_exceptions.md R354). -/
def ErrsStay (s t : State) : Prop :=
  (s.err.cfgErr = true → t.err.cfgErr = true) ∧ (s.err.cmdErr = true → t.err.cmdErr = true) ∧
    (s.err.lockErr = true → t.err.lockErr = true) ∧ (s.err.rxOverrun = true → t.err.rxOverrun = true) ∧
    (s.err.txUnderflow = true → t.err.txUnderflow = true)

theorem ErrsStay.of_eq {s t : State} (h : t.err = s.err) : ErrsStay s t := by
  simp [ErrsStay, h]

/-- A raised flag is added to those that are set (60_exceptions.md R350). -/
theorem ErrsStay.of_raise {s t : State} (f : ErrFlag) (h : t.err = s.err.raise f) : ErrsStay s t := by
  cases f <;> simp [ErrsStay, h, ErrFlags.raise]

theorem ErrsStay.trans {s t u : State} (h : ErrsStay s t) (h' : ErrsStay t u) : ErrsStay s u := by
  obtain ⟨hcfg, hcmd, hlock, hrx, htx⟩ := h
  obtain ⟨hcfg', hcmd', hlock', hrx', htx'⟩ := h'
  exact ⟨hcfg' ∘ hcfg, hcmd' ∘ hcmd, hlock' ∘ hlock, hrx' ∘ hrx, htx' ∘ htx⟩

/-! ### The RX deserializer: a payload byte without room raises RX_OVERRUN, nothing else raises a flag -/

theorem failFrame_err (s : State) : (failFrame s).err = s.err := by
  rw [failFrame_eq]

theorem frameEnd_err (s : State) : (frameEnd s).err = s.err := by
  rcases frameEnd_cases s with ⟨h, -⟩ | ⟨-, ⟨h, -⟩ | ⟨h, -⟩⟩ <;> rw [h]
  · exact failFrame_err _
  · exact failFrame_err _
  · rfl

theorem advance_err (p : RxPhase) (s : State) : (advance p s).err = s.err := by
  rcases advance_cases p s with ⟨q, -, -, h⟩ | ⟨-, h⟩ <;> rw [h]
  · rfl
  · exact frameEnd_err s

theorem lengthMismatch_err (s : State) : (lengthMismatch s).err = s.err := failFrame_err _

theorem rxLenDone_err (s : State) : (rxLenDone s).err = s.err := by
  unfold rxLenDone
  dsimp only
  split
  · exact lengthMismatch_err _
  · rw [advance_err]
    rfl

theorem rxLen_err (b : Byte) (s : State) : (rxLen b s).err = s.err := by
  unfold rxLen
  dsimp only
  split
  · exact rxLenDone_err _
  · rfl

theorem rxPush_err (b : Byte) (s : State) : (rxPush b s).err = s.err := by
  rw [rxPush_cases]
  split <;> rfl

theorem rxCrc_err (b : Byte) (s : State) : (rxCrc b s).err = s.err := by
  unfold rxCrc
  dsimp only
  split
  · exact frameEnd_err _
  · rfl

theorem errsStay_rxPayload (b : Byte) (s : State) : ErrsStay s (rxPayload b s) := by
  unfold rxPayload
  dsimp only
  split
  · exact .of_raise .rxOverrun rfl
  · refine .of_eq ?_
    split
    · exact (advance_err .payload _).trans (rxPush_err b s)
    · exact rxPush_err b s

theorem errsStay_rxByte (b : Byte) (s : State) : ErrsStay s (rxByte b s) := by
  unfold rxByte
  cases s.rx.phase with
  | hunt => exact .of_eq rfl
  | len => exact .of_eq (rxLen_err b (rxCrcUpdate b s))
  | addr => exact .of_eq (advance_err .addr _)
  | ctrl => exact .of_eq (advance_err .ctrl _)
  | payload => exact errsStay_rxPayload b (rxCrcUpdate b s)
  | crc => exact .of_eq (rxCrc_err b s)

/-! ### The TX serializer: an empty FIFO raises TX_UNDERFLOW -/

theorem txAdvance_err (b : Byte) (s : State) : (txAdvance b s).err = s.err := by
  rcases txAdvance_cases b s with ⟨-, h⟩ | ⟨-, h⟩ <;> rw [h]
  · rfl

theorem txPop_err (s t : State) (b : Byte) (h : txPop s = some (b, t)) : t.err = s.err := by
  rcases txPop_cases s with ⟨hnone, -⟩ | ⟨c, rest, -, hsome⟩
  · rw [hnone] at h
    cases h
  · rw [hsome] at h
    cases h
    split <;> rfl

theorem errsStay_txEmit (s : State) : ErrsStay s (txEmit s) := by
  unfold txEmit
  dsimp only
  split
  · exact .of_eq (txAdvance_err _ s)
  split
  · exact .of_eq (txAdvance_err _ (txCrc _ s))
  split
  · split
    · exact .of_raise .txUnderflow rfl
    next b s1 h => exact .of_eq ((txAdvance_err b (txCrc b s1)).trans (txPop_err s s1 b h))
  · exact .of_eq (txAdvance_err _ s)

/-! ### The CSMA engine raises no flag; a request in READY may raise CFG_ERR, a failed lock LOCK_ERR -/

theorem windowEnd_err (k : Nat) (s : State) : (windowEnd k s).err = s.err := by
  rcases windowEnd_cases k s with ⟨h, -⟩ | ⟨-, ⟨h, -⟩ | ⟨-, ⟨h, -⟩ | ⟨h, -⟩⟩⟩ <;> rw [h]
  · rfl
  · rfl
  · rfl
  · obtain ⟨d, -, ⟨-, h⟩ | ⟨-, h⟩⟩ := startBackoff_cases k s <;> rw [h]
    · rfl

theorem csmaSample_err (v : Byte) (k : Nat) (s : State) : (csmaSample v k s).err = s.err := by
  unfold csmaSample
  dsimp only
  split
  · exact windowEnd_err k _
  · rfl

theorem csmaTick_err (s : State) : (csmaTick s).err = s.err := by
  unfold csmaTick
  dsimp only
  split <;> rfl

theorem errsStay_txStrobeInReady (s : State) : ErrsStay s (txStrobeInReady s) := by
  rcases txStrobeInReady_cases s with ⟨h, -⟩ | ⟨-, ⟨h, -⟩ | ⟨h, -⟩⟩ <;> rw [h]
  · exact .of_raise .cfgErr rfl
  · exact .of_eq rfl
  · exact .of_eq rfl

theorem errsStay_rxStrobeInReady (s : State) : ErrsStay s (rxStrobeInReady s) := by
  rcases rxStrobeInReady_cases s with ⟨h, -⟩ | ⟨h, -⟩ <;> rw [h]
  · exact .of_raise .cfgErr rfl
  · exact .of_eq rfl

theorem errsStay_lockResult (ok : Bool) (s : State) : ErrsStay s (lockResult ok s) := by
  cases ok with
  | false => exact .of_raise .lockErr rfl
  | true =>
    have hready : ErrsStay s (lockSuccess s) := .of_eq rfl
    refine hready.trans ?_
    rw [lockResult_true]
    cases s.pending with
    | none => exact .of_eq rfl
    | tx => exact errsStay_txStrobeInReady _
    | rx => exact errsStay_rxStrobeInReady _

theorem errsStay_envStep (e : Input) (s : State) : ErrsStay s (envStep e s) := by
  unfold envStep
  split
  · cases e with
    | transaction bytes => exact .of_eq rfl
    | txEmit => exact errsStay_txEmit s
    | lockResult ok => exact errsStay_lockResult ok s
    | rssiSample v => exact .of_eq rfl
    | csmaSample v k => exact .of_eq (csmaSample_err v k s)
    | tick => exact .of_eq (csmaTick_err s)
    | syncDetected => exact .of_eq rfl
    | rxByte b => exact errsStay_rxByte b s
    | carrierLost => exact .of_eq (lengthMismatch_err s)
  · exact .of_eq rfl

/-! ### Commands -/

theorem sabortEffect_err (s : State) : (sabortEffect s).err = s.err := by
  unfold sabortEffect
  cases s.radio with
  | rx =>
    show (if s.rx.phase ≠ .hunt then flushRxFifo s else s).err = s.err
    split <;> rfl
  | ready =>
    show (if s.csma.active then endCsma 4#8 s else s).err = s.err
    split <;> rfl
  | _ => rfl

/-- A refused command raises CMD_ERR, a refused request CFG_ERR; SRES alone clears flags (41_state_machine.md R172). -/
theorem errsStay_commandEffect (i : Instr) (s : State) (h : ∀ tail, i ≠ .sres tail) :
    ErrsStay s (commandEffect i s) := by
  have hrefused : ErrsStay s (setErr .cmdErr s) := .of_raise .cmdErr rfl
  cases i with
  | sres tail => exact absurd rfl (h tail)
  | pwrup | reservedStrobe | reservedHeader => exact hrefused
  | ready tail =>
    show ErrsStay s (readyEffect s)
    unfold readyEffect
    repeat' split
    exacts [.of_eq rfl, .of_eq rfl, .of_eq rfl, hrefused]
  | standby tail =>
    show ErrsStay s (standbyEffect s)
    unfold standbyEffect
    repeat' split
    exacts [.of_eq rfl, .of_eq rfl, hrefused]
  | sleep tail =>
    show ErrsStay s (sleepEffect s)
    unfold sleepEffect
    repeat' split
    exacts [.of_eq rfl, .of_eq rfl, .of_eq rfl, hrefused]
  | rx tail =>
    show ErrsStay s (rxEffect s)
    unfold rxEffect
    repeat' split
    exacts [errsStay_rxStrobeInReady s, .of_eq rfl, hrefused]
  | tx tail =>
    show ErrsStay s (txEffect s)
    unfold txEffect
    repeat' split
    exacts [errsStay_txStrobeInReady s, .of_eq rfl, hrefused]
  | sabort tail => exact .of_eq (sabortEffect_err s)
  | flushtx tail =>
    show ErrsStay s (flushtxEffect s)
    unfold flushtxEffect
    split
    exacts [hrefused, .of_eq rfl]
  | _ => exact .of_eq rfl

/-! ### Writes and reads -/

theorem errsStay_regWriteByte (a v : Byte) (s t : State) (h : regWriteByte a v s = some t) : ErrsStay s t := by
  unfold regWriteByte at h
  split at h
  · rw [((txFifoWrite_eq_some v s t).1 h).2]
    exact .of_eq rfl
  · split at h
    · cases h
      exact .of_eq rfl
    next r hr =>
      cases h
      rcases writeReg_cases a r v s with ⟨h, -⟩ | ⟨h, -⟩ | ⟨h, -⟩ <;> rw [h]
      · exact .of_eq rfl
      · exact .of_raise .cfgErr rfl
      · rw [storeReg_eq]
        exact ⟨fun hset => by simp [hset], id, id, id, id⟩

theorem errsStay_writeBytes (d : Bytes) (a : Byte) (s : State) : ErrsStay s (writeBytes a d s) := by
  induction d generalizing a s with
  | nil => exact .of_eq rfl
  | cons b ds ih =>
    rw [writeBytes]
    split
    · exact .of_eq rfl
    next s1 h => exact (errsStay_regWriteByte a b s s1 h).trans (ih (nextAddr a) s1)

theorem errsStay_memWrite (a : Byte) (d : Bytes) (s : State) : ErrsStay s (memWrite a d s) := by
  unfold memWrite
  split
  · exact .of_eq rfl
  · exact errsStay_writeBytes d a s

/-- Reads at the FIFO port clear nothing (40_bus_transactions.md R147). -/
theorem readBytes_fifoPort_err (n : Nat) (s : State) : (readBytes fifoPort n s).2.err = s.err := by
  induction n generalizing s with
  | zero => rfl
  | succ n ih =>
    rw [readBytes]
    split
    · rfl
    next b s1 h =>
      obtain ⟨rest, -, rfl⟩ := (rxFifoRead_eq_some b s s1).1 h
      exact ih { s with rxFifo := rest }

/-- The reads that `readsErrFlags` names are those of a burst that covers 0x2C (10_state.md R52). -/
theorem readsErrFlags_decodeRead (a : Byte) (d : Bytes) :
    readsErrFlags (decodeRead a d) = true ↔ a ≠ 0xFF#8 ∧ a.toNat ≤ 0x2C ∧ 0x2C < a.toNat + d.length := by
  by_cases ha : a = 0xFF#8
  · match d with
    | [] => simp [decodeRead, readsErrFlags, ha]
    | [_] => simp [decodeRead, readsErrFlags, ha]
    | _ :: _ :: _ => simp [decodeRead, readsErrFlags, ha]
  · match d with
    | [] => simp [decodeRead, readsErrFlags]
    | [_] =>
      have haddr : a = 0x2C#8 ↔ a.toNat = 0x2C := BitVec.toNat_inj.symm
      simp only [decodeRead, ha, if_false, readsErrFlags, beq_iff_eq, haddr, ne_eq, not_false_eq_true, true_and,
        List.length_singleton]
      omega
    | _ :: _ :: _ => simp [decodeRead, readsErrFlags, ha]

/-- A read that does not cover ERR_FLAGS clears no error flag (10_state.md R52, 40_bus_transactions.md R143). -/
theorem memRead_err (a : Byte) (d : Bytes) (s : State) (h : readsErrFlags (decodeRead a d) = false) :
    (memRead a d.length s).err = s.err := by
  by_cases hfit : BurstFits a d.length s
  · rw [memRead_of_fits a d.length s hfit]
    by_cases ha : a = 0xFF#8
    · rw [show a = fifoPort from ha]
      exact readBytes_fifoPort_err d.length s
    · have hcovers : ¬ (a.toNat ≤ 0x2C ∧ 0x2C < a.toNat + d.length) := fun hcover =>
        absurd ((readsErrFlags_decodeRead a d).2 ⟨ha, hcover⟩) (by simp [h])
      rw [readBytes_burst_frame d.length a s (hfit.2.resolve_left ha)]
      exact if_neg hcovers
  · obtain ⟨info, hcheck⟩ := Option.ne_none_iff_exists'.1 (mt (burstCheck_eq_none a d.length s).1 hfit)
    rw [memRead_of_burstCheck a d.length info s hcheck]
    rfl

/-! ### Every step -/

/-- The transactions that clear error flags (60_exceptions.md R354). -/
def ClearsErrs (i : Instr) (s : State) : Prop :=
  readsErrFlags i = true ∨ (∃ tail, i = .sres tail) ∨ s.powered = false ∧ ∃ tail, i = .pwrup tail

theorem Transacted.errsStay {m : StrobeCode} {bytes : Bytes} {i : Instr} {s t : State} (h : Transacted bytes i s t)
    (hdec : decode m bytes = .ok i) (hkeeps : ¬ ClearsErrs i s) : ErrsStay s t := by
  simp only [ClearsErrs, not_or, not_and, not_exists, Bool.not_eq_true] at hkeeps
  obtain ⟨hread, hsres, hpwrup⟩ := hkeeps
  cases h with
  | write hp a d hd hbytes => exact errsStay_memWrite a d s
  | read hp a d hd hbytes =>
    have hi : decodeRead a d = i := Except.ok.inj ((hbytes ▸ decode_read_header m a d).symm.trans hdec)
    exact .of_eq (memRead_err a d s (hi ▸ hread))
  | command hp n => exact errsStay_commandEffect i s hsres
  | unpowered hp n =>
    rw [offEffect_of_ne_pwrup i (hpwrup hp)]
    exact .of_eq rfl

/-- Settles O57: each way a step goes on keeps the flags, the transactions of `ClearsErrs` apart. -/
theorem errorFlagsAreSticky : Obligations.ErrorFlagsAreSticky := by
  intro s t ht
  obtain ⟨-, ⟨-, rfl⟩ | ⟨e, rest, hi, ⟨bytes, i, rfl, hd, hexec⟩ | ⟨bytes, -, -, rfl⟩ | ⟨-, rfl⟩⟩⟩ := step_cases s t ht
  · exact .inl (ErrsStay.of_eq rfl)
  · by_cases hclears : ClearsErrs i s
    · exact .inr ⟨bytes, rest, i, hi, hd, hclears⟩
    · exact .inl ((transacted_of_exec s.cfg.strobeCode bytes i _ t hd hexec).errsStay hd hclears)
  · exact .inl (ErrsStay.of_eq rfl)
  · exact .inl (errsStay_envStep e { s with input := rest })

end Sys2Proof.Machine
end

section
/-! PROOFS of the family `70_reset_and_hazards.md`. The power-on state and the levels of the pins (O23), and the
machine's invariant at power-on (O54). -/

namespace Sys2Proof.Machine

open Sys2Proof

/-! ## The levels of the pins -/

/-- No pin is driven without power (70_reset_and_hazards.md R390). -/
theorem pinLevel_of_unpowered (n : Nat) (s : State) (h : s.powered = false) : pinLevel n s = false := by
  simp [pinLevel, h]

/-- EN and EDGE are bits 0 and 1 of the pin's register (10_state.md R55, R57). -/
theorem pinLevel_of_gpioCfg {n : Nat} {s : State} {v : Byte} (hv : s.regs.gpioCfg[n]? = some v) :
    pinLevel n s = (s.powered && v.getLsbD 0 && v.getLsbD 1) := by
  simp [pinLevel, gpioEn, gpioEdge, hv]

theorem pinActiveLevel_of_gpioCfg {n : Nat} {s : State} {v : Byte} (hv : s.regs.gpioCfg[n]? = some v) :
    pinActiveLevel n s = !v.getLsbD 1 := by
  simp [pinActiveLevel, gpioEdge, hv]

/-- Settles O23: the fields of the power-on state, and each pin's level by its register. -/
theorem powerOnStateAndPinLevels : Obligations.PowerOnStateAndPinLevels := by
  refine ⟨rfl, rfl, rfl, rfl, rfl, rfl, fun s n hp => pinLevel_of_unpowered n s hp,
    fun s n v hp hv => ⟨fun hen => ?_, fun hen => ⟨?_, pinActiveLevel_of_gpioCfg hv⟩⟩⟩
  · rw [pinLevel_of_gpioCfg hv, hp, hen, Bool.true_and, Bool.false_and]
  · rw [pinLevel_of_gpioCfg hv, hp, hen, Bool.true_and, Bool.true_and]

/-! ## The invariant at power-on -/

theorem fifoCap_of_legal {c : Config} (h : c.legal = true) : c.fifoCap = 64 ∨ c.fifoCap = 128 := by
  simp only [Config.legal, Bool.and_eq_true, Bool.or_eq_true, beq_iff_eq] at h
  tauto

/-- Each reset value is one that a write could store; the FIFO thresholds, 16 and 48, are within either capacity
(10_state.md R30, R34). -/
theorem storable_reset {cap : Nat} (hcap : cap = 64 ∨ cap = 128) (n : Nat) :
    plainRwRegs.all (fun r => storable cap r (regGet (Regs.reset n) r)) = true := by
  rcases hcap with rfl | rfl <;> simp [plainRwRegs, storable, regMask, regLegal, regGet, Regs.reset]

/-- Every pin is disabled after a reset, which is legal whatever its selector (10_state.md R30). -/
theorem storable_gpioCfg_reset (cap n : Nat) :
    (Regs.reset n).gpioCfg.all (fun v => storable cap (.gpioCfg 0) v) = true := by
  have hzero : storable cap (.gpioCfg 0) 0x00#8 = true := rfl
  simp [Regs.reset, hzero]

theorem regsInv_powerOn (c : Config) (h : c.legal = true) : RegsInv (State.powerOn c) := by
  refine ⟨storable_reset (fifoCap_of_legal h) c.numGpio, storable_gpioCfg_reset c.fifoCap c.numGpio,
    List.length_replicate, ?_⟩
  simp [State.powerOn, Regs.reset]

/-- The machine starts within its invariant under every legal choice of the parameters of 00_scope.md R7: SHUTDOWN,
empty FIFOs, registers at their reset values, and no engine at work (70_reset_and_hazards.md R390). -/
theorem machineInv_powerOn (c : Config) (h : c.legal = true) : MachineInv (State.powerOn c) := by
  refine ⟨h, ?power, ?fifos, regsInv_powerOn c h, ?csma, ?tx, ?rx⟩
  case power => simp [PowerInv, State.powerOn, CsmaEngine.reset]
  case fifos => simp [FifoInv, State.powerOn]
  case csma => exact fun hactive => absurd hactive Bool.false_ne_true
  case tx => exact fun hradio => RadioState.noConfusion hradio
  case rx => exact fun hradio => RadioState.noConfusion hradio

/-- Settles O54: the default parameters are legal. -/
theorem machineInvAtReset : Obligations.MachineInvAtReset :=
  machineInv_powerOn Config.default (by decide)

end Sys2Proof.Machine
end
